-- ==== Sys2Proof/Word.lean ====
section
/-! DEFINITION. The words and numbers of the Utway 3160 (spec/00_scope.md, Units and Capacities at a glance). -/

namespace Sys2Proof

/-- One byte of the management link. -/
abbrev Byte := BitVec 8

/-- A word of 8 bytes: byte n of the word, at the word's address plus n, is bits 8n+7..8n. -/
abbrev Word := BitVec 64

/-- A 40-bit byte address. -/
abbrev Addr := BitVec 40

/-- A running position of a queue: a count of words modulo 2^32 (R2, R5). -/
abbrev Position := BitVec 32

/-- A 16-bit record number (R2, R21). -/
abbrev Sequence := BitVec 16

/-- The enabled byte lanes of a beat: bit n is lane n (R133). -/
abbrev Lanes := BitVec 8

/-- A set of requester classes: bit c says that class c is in the set (R181 codes it so). -/
abbrev ClassSet := BitVec 4

abbrev QueueId := Fin 16
abbrev Requester := Fin 64
abbrev Tag := Fin 8
abbrev RequesterClass := Fin 4
abbrev WindowIndex := Fin 32

/-- A beat count: 1..16 words (R133, R13, R54). -/
abbrev BurstLength := { n : Nat // 1 ≤ n ∧ n ≤ 16 }

end Sys2Proof
end

