-- ==== Sys2Proof/Syntax.lean ====
section
/-! DEFINITION. The commands of the block: one constructor per row of spec/opcode_table.json. -/

namespace Sys2Proof

/-- Direction of a transfer (R133, R143). -/
inductive Direction where
  | read
  | write
  deriving DecidableEq, Repr

/-- One beat, or one word of a memory write: data, enabled lanes and poison mark (R133, R143). -/
structure Beat where
  data   : Word
  lanes  : Lanes
  poison : Bool
  deriving DecidableEq, Repr

/-- A request presented at the system-side port (R133). -/
structure Request where
  requester : Requester
  tag       : Tag
  direction : Direction
  address   : Addr
  beats     : BurstLength
  deriving DecidableEq, Repr

/-- The status of a memory completion (R143). -/
inductive MemStatus where
  | ok
  | error
  deriving DecidableEq, Repr

/-- The commands. Each is one whole and indivisible event (95_what_each_step_holds.md). -/
inductive Instr where
  /-- TAKE_REQUEST (R135): the interconnect presents a request, and the taking test runs. -/
  | takeRequest (request : Request)
  /-- WRITE_BEAT (R137): the interconnect offers the next beat of a write. -/
  | writeBeat (requester : Requester) (tag : Tag) (beat : Beat)
  /-- MEMORY_PASSAGE (R145): the arbiter passes a request. The operand is the number the Memory Port offers it (R143). -/
  | memoryPassage (number : Nat)
  /-- PAYLOAD_WRITE_OK (R27). -/
  | payloadWriteOk (number : Nat)
  /-- PAYLOAD_WRITE_ERROR (R28). -/
  | payloadWriteError (number : Nat)
  /-- HEADER_WRITE_OK (R31). -/
  | headerWriteOk (number : Nat)
  /-- HEADER_WRITE_ERROR (R48). -/
  | headerWriteError (number : Nat)
  /-- POP_READ_OK (R60). -/
  | popReadOk (number : Nat) (data : List Word)
  /-- POP_READ_ERROR (R61). -/
  | popReadError (number : Nat)
  /-- PASS_THROUGH_READ_COMPLETION (R140). -/
  | passThroughReadCompletion (number : Nat) (status : MemStatus) (data : List Word)
  /-- PASS_THROUGH_WRITE_COMPLETION (R141). -/
  | passThroughWriteCompletion (number : Nat) (status : MemStatus)
  /-- NOTICE_WRITE_COMPLETION (R111). -/
  | noticeWriteCompletion (number : Nat) (status : MemStatus)
  /-- DISCARDED_COMPLETION (R143). -/
  | discardedCompletion (number : Nat) (status : MemStatus) (data : List Word)
  /-- WAITER_EXPIRY (R81): the deadline of the held request with this requester and tag is reached. -/
  | waiterExpiry (requester : Requester) (tag : Tag)
  /-- REQUEST_FRAME (R154): select is deasserted after a period that clocked these bits on data in, in order (R151). -/
  | requestFrame (bits : List Bool)
  /-- FETCH (R156): a period whose first byte is the fetch code, with so many clocks after that byte (R151). -/
  | fetch (clocks : Nat)
  /-- READ_STATUS (R157): the pending READ-STATUS executes. -/
  | readStatus
  /-- READ_WINDOW (R158). -/
  | readWindow
  /-- WRITE_WINDOW (R159). -/
  | writeWindow
  /-- READ_CLASS_MAP (R160). -/
  | readClassMap
  /-- WRITE_CLASS (R161). -/
  | writeClass
  /-- READ_QUEUE (R162). -/
  | readQueue
  /-- CONFIGURE_QUEUE (R163). -/
  | configureQueue
  /-- START (R91): the pending QUEUE-COMMAND carries START for a valid queue, and executes. -/
  | start
  /-- DRAIN (R92). -/
  | drain
  /-- STOP (R95). -/
  | stop
  /-- FLUSH (R102). -/
  | flush
  /-- CLEAR_FAULT (R101). -/
  | clearFault
  /-- ARM_NOTICE (R103). -/
  | armNotice
  /-- READ_LOG (R165). -/
  | readLog
  /-- PEEK_LOG (R166). -/
  | peekLog
  /-- SOFT_RESET (R167). -/
  | softReset
  /-- POWER_ON_RESET (R107). The operand says whether a select period is in progress (R152). -/
  | powerOnReset (periodInProgress : Bool)
  /-- QUEUE_COMMAND (R164): the pending QUEUE-COMMAND executes, whatever index and action it carries. -/
  | queueCommand
  deriving DecidableEq, Repr

end Sys2Proof
end

