-- ==== Sys2Proof/Decode.lean ====
section
/-! DEFINITION. The words of the opcode table: spec/opcode_table.json gives no row any bits ("fields": []), so no word
spells a command (log entry 21). The one encoding the block reads, the management frame, is decoded when REQUEST_FRAME
and the executing commands run (Machine/Operands.lean, Machine/Link.lean). -/

namespace Sys2Proof

/-- The command a word spells: none, since no row of the table has bits. -/
def decodeTableWord (_nbits _w : Nat) : Option Instr := none

end Sys2Proof
end

