-- ==== Sys2Proof/Config.lean ====
section
/-! DEFINITION. The capacities of the 3160 (spec/00_scope.md, Capacities at a glance), and the free values: choices the
spec leaves open after which the machine goes on. A free value is an opaque constant taken at a counter of State
(`freeUses`), so nothing can be proved about which choice it makes. -/

namespace Sys2Proof

/-- Transaction Tracker entries (R134). -/
abbrev Config.trackerEntries : Nat := 64
/-- Reservation Table entries (R18). -/
abbrev Config.reservationEntries : Nat := 48
/-- Places of one Pop Entry List (R54). -/
abbrev Config.popEntries : Nat := 16
/-- Hold slots (R76). -/
abbrev Config.holdSlots : Nat := 32
/-- Request numbers, and the most requests outstanding at memory (R143, R144). -/
abbrev Config.requestNumbers : Nat := 96
/-- Exception Log entries (R171). -/
abbrev Config.logEntries : Nat := 32
/-- Where the lost count stays (R175). -/
abbrev Config.lostLimit : Nat := 65535
/-- Notice writes of one queue outstanding at once (R112). -/
abbrev Config.noticeWrites : Nat := 2
/-- Bytes the request buffer stores (R152). -/
abbrev Config.bufferBytes : Nat := 64
/-- A page in bytes. -/
abbrev Config.pageBytes : Nat := 4096
/-- The fetch code (R180). -/
abbrev Config.fetchCode : Byte := 0xF0#8

/-- FREE VALUE (log entry 7). After a rewind, does the reservation-entry arbiter run before the push list
re-examination? R45 and R79: both orders are legal. -/
opaque Config.arbiterBeforeReexamination : Nat → Bool

/-- FREE VALUE (log entry 8). Is the new push that reaches the same moment decided before the arbiter runs for the entry an
event frees? R37: both orders are legal. -/
opaque Config.takeBeforeArbiter : Nat → Bool

/-- FREE VALUE (log entry 1). Which of the expiries that are due together is taken first? R81: either order. -/
opaque Config.dueChoice : Nat → Nat

/-- FREE VALUE (log entry 5). A word of a read completion that the completion does not carry: `missingWord use place`. -/
opaque Config.missingWord : Nat → Nat → Word

end Sys2Proof
end

