-- ==== Sys2Proof/Machine/State.lean ====
section
/-! DEFINITION. The state of the bridge, grouped by the blocks that hold it (spec/00_scope.md, Block overview), and its
values after power-on reset. -/

namespace Sys2Proof.Machine

/-- No command of the block stops the machine with a fault (INVENTORY.md, Faults): there is no constructor. -/
inductive Fault where
  deriving DecidableEq, Repr

/-- Why a command has no meaning. -/
inductive Refusal where
  /-- Raised by exec's arm of a command that is not modelled. Safe: the run ends. No arm raises it. -/
  | notModelled (mnemonic : String)
  deriving DecidableEq, Repr

/-! ### The queue context (chapter 1) -/

/-- The five queue states (R88). -/
inductive QueueState where
  | stopped
  | running
  | draining
  | stopping
  | faulted
  deriving DecidableEq, Repr

/-- The resume state (R2). -/
inductive ResumeState where
  | running
  | draining
  deriving DecidableEq, Repr

/-- The full and empty policies (R1). -/
inductive Policy where
  | hold
  | refuse
  | latch
  deriving DecidableEq, Repr

/-- Why a queue faulted (R2, R98). -/
inductive FaultReason where
  | fullLatch
  | emptyLatch
  | headerWrite
  | ringRead
  deriving DecidableEq, Repr

/-- The ten configuration fields (R1). -/
structure QueueConfig where
  ringBase      : Addr
  ringSize      : Nat
  fullPolicy    : Policy
  emptyPolicy   : Policy
  holdLimit     : Nat
  logRetries    : Bool
  directAccess  : ClassSet
  noticeAddress : Addr
  noticeValue   : Word
  threshold     : Nat
  deriving DecidableEq, Repr

/-- A pop entry (R54). `returned` has a place for each of its words, filled as its reads complete OK. -/
structure PopEntry where
  start            : Position
  words            : BurstLength
  requester        : Requester
  tag              : Tag
  readsOutstanding : Nat
  errorSeen        : Bool
  returned         : List (Option Word)
  deriving DecidableEq, Repr

/-- A held request (R77). -/
structure Waiter where
  requester : Requester
  tag       : Tag
  length    : BurstLength
  joinOrder : Nat
  deadline  : Nat
  deriving DecidableEq, Repr

/-- The record of an outstanding notice write (R108). -/
structure NoticeRecord where
  address : Addr
  value   : Word
  deriving DecidableEq, Repr

/-- A queue: its context (R1, R2), its Pop Entry List (R54), its waiter lists (R77) and its notice write records (R108). -/
structure Queue where
  config       : QueueConfig
  state        : QueueState
  release      : Position
  read         : Position
  commit       : Position
  reserve      : Position
  nextSequence : Sequence
  faultReason  : Option FaultReason
  resume       : ResumeState
  noticeArmed  : Bool
  popEntries   : List PopEntry
  pushWaiters  : List Waiter
  popWaiters   : List Waiter
  notices      : List NoticeRecord
  deriving DecidableEq, Repr

/-! ### The Reservation Table (chapter 2) -/

/-- DATA or FILLER (R14, R18). -/
inductive RecordKind where
  | data
  | filler
  deriving DecidableEq, Repr

/-- Why a record cannot become a DATA record (R39). -/
inductive AbandonCause where
  | poison
  | payloadError
  | stop
  deriving DecidableEq, Repr

/-- The stage of a record (R18). -/
inductive EntryState where
  | filling
  | writing
  | sealing
  | closed
  | discarding
  | failed
  deriving DecidableEq, Repr

/-- A reservation entry in use (R18). -/
structure Entry where
  queue             : QueueId
  requester         : Requester
  tag               : Tag
  start             : Position
  words             : BurstLength
  sequence          : Sequence
  beatsTaken        : Nat
  gathered          : List Word
  lastBytes         : Nat
  writesOutstanding : Nat
  kind              : RecordKind
  cause             : Option AbandonCause
  state             : EntryState
  deriving DecidableEq, Repr

/-! ### The Window Decoder (chapter 8) -/

/-- The kind of a window (R115). -/
inductive WindowKind where
  | pass
  | remap
  | push
  | pop
  | block
  deriving DecidableEq, Repr

/-- A Window Table entry (R115). -/
structure Window where
  enabled : Bool
  base    : Addr
  limit   : Addr
  kind    : WindowKind
  queue   : QueueId
  target  : Addr
  classes : ClassSet
  deriving DecidableEq, Repr

/-! ### The Exception Log (chapter 11) -/

/-- The reasons of log entries, and of RETRY and DECLINE answers (R172). -/
inductive Reason where
  | align
  | boundary
  | kind
  | blocked
  | guard
  | memory
  | state
  | faulted
  | latched
  | drained
  | abandoned
  | headerWrite
  | ringRead
  | full
  | empty
  | noSlot
  | timeout
  | queueFaulted
  | noticeFault
  deriving DecidableEq, Repr

/-- The words field of a log entry (R171). -/
inductive LogWords where
  | count (n : Nat)
  | cause (c : AbandonCause)
  | fault (r : FaultReason)
  deriving DecidableEq, Repr

/-- A log entry (R171). Requester and tag are present together. -/
structure LogEntry where
  reason   : Reason
  origin   : Option (Requester × Tag) := none
  address  : Option Addr := none
  queue    : Option QueueId := none
  sequence : Option Sequence := none
  words    : Option LogWords := none
  deriving DecidableEq, Repr

/-- The Exception Log: its entries, oldest first, and the lost count (R171). -/
structure ExceptionLog where
  entries : List LogEntry
  lost    : Nat
  deriving DecidableEq, Repr

/-! ### The System Port (chapter 9) -/

/-- The status of a response (00_scope.md; R133). -/
inductive Status where
  | ok
  | retry
  | decline
  deriving DecidableEq, Repr

/-- How a transaction is carried (R119, R134). The length is the request's. -/
inductive Decoded where
  | portRefused
  | access (memory : Addr)
  | push (queue : QueueId)
  | pop (queue : QueueId)
  | refused (reason : Reason)
  deriving DecidableEq, Repr

/-- What the port does with a write's next beat (R137). -/
inductive BeatMode where
  | waiting
  | gathering
  | handing
  | dropping
  deriving DecidableEq, Repr

/-- An answer given to a transaction: a status with its reason, and for a read its data (R134). -/
structure Answer where
  status : Status
  reason : Option Reason
  data   : List Word
  deriving DecidableEq, Repr

/-- A Transaction Tracker entry (R134). -/
structure Transaction where
  request  : Request
  decoded  : Decoded
  beatMode : Option BeatMode
  received : Nat
  gathered : List Beat
  answer   : Option Answer
  deriving DecidableEq, Repr

/-- A response on the system-side port (R133). -/
structure Response where
  requester : Requester
  tag       : Tag
  status    : Status
  data      : List Word
  deriving DecidableEq, Repr

/-- The System Port: the tracker, the requests not yet taken in arrival order (the first is the presented one, R135),
and the responses sent in the latest command. -/
structure SystemPort where
  tracker  : List Transaction
  arrivals : List Request
  sent     : List Response
  deriving DecidableEq, Repr

/-! ### The Memory Port (chapter 9) -/

/-- What presented a memory request; it gives the request's source (R145) and where its completion goes (R143). -/
inductive Owner where
  | header (queue : QueueId) (start : Position)
  | payload (queue : QueueId) (start : Position)
  /-- The read of a pop entry that fills its returned words from place `first` on (R60). -/
  | popRead (queue : QueueId) (start : Position) (first : Nat)
  | passThrough (requester : Requester) (tag : Tag)
  | notice (queue : QueueId)
  deriving DecidableEq, Repr

/-- A memory request (R143). `beats` holds a write's words. -/
structure MemRequest where
  owner     : Owner
  direction : Direction
  address   : Addr
  words     : Nat
  beats     : List Beat
  deriving DecidableEq, Repr

/-- A request passed to memory, holding its request number (R143). -/
structure Passed where
  number  : Nat
  request : MemRequest
  deriving DecidableEq, Repr

/-- The Memory Port: requests waiting at the arbiter in presentation order, requests passed and not completed, and the
request handed to the memory controller in the latest command. -/
structure MemoryPort where
  waiting : List MemRequest
  passed  : List Passed
  handed  : List Passed
  deriving DecidableEq, Repr

/-! ### The Management Link Controller (chapter 10) -/

/-- The management commands (R180). -/
inductive Command where
  | readStatus
  | readWindow
  | writeWindow
  | readClassMap
  | writeClass
  | readQueue
  | configureQueue
  | queueCommand
  | readLog
  | peekLog
  | softReset
  deriving DecidableEq, Repr

/-- The statuses of a response frame (R156, Results). -/
inductive Result where
  | done
  | accepted
  | refusedState
  | badConfig
  | badIndex
  | badValue
  | logEmpty
  | busy
  | unknownCommand
  | badFrame
  | notReady
  | noResponse
  deriving DecidableEq, Repr

/-- The six queue actions (R164). -/
inductive QueueAction where
  | start
  | drain
  | stop
  | flush
  | clearFault
  | armNotice
  deriving DecidableEq, Repr

/-- A request accepted and not yet executed (R152). -/
structure PendingRequest where
  command    : Command
  payload    : List Byte
  superseded : Bool
  deriving DecidableEq, Repr

/-- The response slot, with the response it holds (R152). -/
inductive ResponseSlot where
  | none
  | awaiting
  | held (result : Result) (payload : List Byte)
  deriving DecidableEq, Repr

/-- The Management Link Controller (R152). -/
structure Link where
  /-- The request buffer: the first 64 bytes of the current period. -/
  buffer       : List Byte
  /-- Whole bytes received in the current period. -/
  received     : Nat
  request      : Option PendingRequest
  slot         : ResponseSlot
  softReset    : Bool
  /-- A select period was in progress when a power-on reset arrived, and is ignored to its end. -/
  ignorePeriod : Bool
  /-- The bits driven on data out in the latest link command, one for each clock, in order (R151). -/
  dataOut      : List Bool
  deriving DecidableEq, Repr

/-! ### The Hold Unit (chapter 5) -/

/-- The Hold Unit's state beside the waiter lists: the next place in the join order (R77) and the hold clock (R81). -/
structure HoldUnit where
  nextJoin : Nat
  clock    : Nat
  deriving DecidableEq, Repr

/-- The whole bridge, and the queue of commands that wait to be taken. -/
structure State where
  sys          : SystemPort
  windows      : Vector Window 32
  classes      : Vector RequesterClass 64
  queues       : Vector Queue 16
  reservations : List Entry
  hold         : HoldUnit
  mem          : MemoryPort
  link         : Link
  log          : ExceptionLog
  /-- The arbiter's run for a freed entry waits for the decision of the push that comes next (R37; log entry 8). -/
  arbiterDue   : Bool
  freeUses     : Nat
  pending      : List Instr
  deriving DecidableEq, Repr

/-! ### Values after power-on reset -/

/-- R3: the configuration of an unconfigured queue. -/
def QueueConfig.reset : QueueConfig where
  ringBase := 0
  ringSize := 0
  fullPolicy := .refuse
  emptyPolicy := .refuse
  holdLimit := 1000
  logRetries := false
  directAccess := 0
  noticeAddress := 0
  noticeValue := 0
  threshold := 0

/-- R3, R56, R87, R108. -/
def Queue.reset : Queue where
  config := QueueConfig.reset
  state := .stopped
  release := 0
  read := 0
  commit := 0
  reserve := 0
  nextSequence := 0
  faultReason := none
  resume := .running
  noticeArmed := false
  popEntries := []
  pushWaiters := []
  popWaiters := []
  notices := []

/-- R116. -/
def Window.reset : Window where
  enabled := false
  base := 0
  limit := 0
  kind := .pass
  queue := 0
  target := 0
  classes := 0

/-- R152. -/
def Link.reset : Link where
  buffer := []
  received := 0
  request := none
  slot := .none
  softReset := false
  ignorePeriod := false
  dataOut := []

/-- The machine after power-on reset (R3, R19, R56, R87, R107, R108, R116, R148, R170, R171, R178). -/
def State.reset : State where
  sys := ⟨[], [], []⟩
  windows := Vector.replicate 32 Window.reset
  classes := Vector.replicate 64 0
  queues := Vector.replicate 16 Queue.reset
  reservations := []
  hold := ⟨0, 0⟩
  mem := ⟨[], [], []⟩
  link := Link.reset
  log := ⟨[], 0⟩
  arbiterDue := false
  freeUses := 0
  pending := []

end Sys2Proof.Machine
end

