-- ==== Sys2Proof/Machine/Flags.lean ====
section
/-! DEFINITION. The quantities, conditions and levels the bridge derives from its state: visible, in flight, open and free
(R7), where a position lies (R8, R9), quiet and the completion conditions (R89), the hold slots (R76), the attention line
(R177) and the soft-reset completion condition (R168). -/

namespace Sys2Proof.Machine

/-- The context of queue q. -/
def State.queue (s : State) (q : QueueId) : Queue := s.queues[q]

/-- Words from position a forward to position b (R6). -/
def wordsBetween (a b : Position) : Nat := (b - a).toNat

/-- visible = commit − read (R7). -/
def Queue.visible (x : Queue) : Nat := wordsBetween x.read x.commit

/-- in flight = read − release (R7). -/
def Queue.inFlight (x : Queue) : Nat := wordsBetween x.release x.read

/-- open = reserve − commit (R7). -/
def Queue.openWords (x : Queue) : Nat := wordsBetween x.commit x.reserve

/-- free = ring size − (reserve − release) (R7). -/
def Queue.free (x : Queue) : Nat := x.config.ringSize - wordsBetween x.release x.reserve

/-- The words a record of payload length L occupies (R13). -/
def recordWords (L : BurstLength) : Nat := 1 + L.val

/-- The position n words after p, modulo 2^32 (R5). -/
def advance (p : Position) (n : Nat) : Position := p + BitVec.ofNat 32 n

/-- The ring word of position p (R8). -/
def QueueConfig.ringWord (c : QueueConfig) (p : Position) : Nat := p.toNat % c.ringSize

/-- The byte address of ring word w (R8). -/
def QueueConfig.wordAddress (c : QueueConfig) (w : Nat) : Addr := c.ringBase + BitVec.ofNat 40 (8 * w)

/-- A piece of a ring access: its byte address, the place of its first word in the access, and its words. -/
structure RingPiece where
  address : Addr
  first   : Nat
  words   : Nat
  deriving DecidableEq, Repr

/-- The one or two requests that cover k positions from p on (R9). -/
def QueueConfig.ringPieces (c : QueueConfig) (p : Position) (k : Nat) : List RingPiece :=
  let w := c.ringWord p
  if w + k ≤ c.ringSize then [⟨c.wordAddress w, 0, k⟩]
  else [⟨c.wordAddress w, 0, c.ringSize - w⟩, ⟨c.wordAddress 0, c.ringSize - w, k - (c.ringSize - w)⟩]

/-- The last byte of the ring (R8), for a ring size that is not 0. -/
def QueueConfig.ringLast (c : QueueConfig) : Nat := c.ringBase.toNat + 8 * c.ringSize - 1

/-- Is class c in the set? -/
def inClasses (set : ClassSet) (c : RequesterClass) : Bool := set.getLsbD c.val

/-- The reservation entries of queue q, in the order of their grants, which is the order of their start positions (R20). -/
def State.entriesOf (s : State) (q : QueueId) : List Entry := s.reservations.filter (fun e => e.queue = q)

/-- The queue owns no reservation entry. -/
def State.ownsNone (s : State) (q : QueueId) : Bool := (s.entriesOf q).isEmpty

/-- Some entry of the Reservation Table is free (R18). -/
def State.entryFree (s : State) : Bool := decide (s.reservations.length < Config.reservationEntries)

/-- Quiet: no reservation entry and no pop entry (R89). -/
def State.quiet (s : State) (q : QueueId) : Bool := s.ownsNone q && (s.queue q).popEntries.isEmpty

/-- The drain-completion condition (R89). -/
def State.drainComplete (s : State) (q : QueueId) : Bool :=
  decide ((s.queue q).state = .draining) && s.quiet q && decide ((s.queue q).visible = 0)

/-- The stop-completion condition (R89). -/
def State.stopComplete (s : State) (q : QueueId) : Bool :=
  decide ((s.queue q).state = .stopping) && s.quiet q

/-- The oldest entry of q is the one that starts at the commit position (R20). -/
def State.oldest (s : State) (q : QueueId) : Option Entry :=
  s.reservations.find? (fun e => e.queue = q ∧ e.start = (s.queue q).commit)

/-- The youngest entry of q is the one that ends at the reserve position (R20). -/
def State.isYoungest (s : State) (e : Entry) : Bool :=
  decide (advance e.start (recordWords e.words) = (s.queue e.queue).reserve)

/-- A DISCARDING entry is ready for resolution (R41). -/
def Entry.ready (e : Entry) : Bool :=
  decide (e.state = .discarding) && decide (e.beatsTaken = e.words.val) && decide (e.writesOutstanding = 0)

/-- The hold slots in use are the waiters of all lists (R76). -/
def State.slotsInUse (s : State) : Nat :=
  (s.queues.toList.map (fun x => x.pushWaiters.length + x.popWaiters.length)).sum

/-- Some hold slot is free (R76). -/
def State.slotFree (s : State) : Bool := decide (s.slotsInUse < Config.holdSlots)

/-- Every Push Waiter list is empty. -/
def State.noPushWaiter (s : State) : Bool := s.queues.toList.all (fun x => x.pushWaiters.isEmpty)

/-- Requests outstanding at memory (R144): the passed ones. -/
def State.outstanding (s : State) : Nat := s.mem.passed.length

/-- Some queue is FAULTED. -/
def State.someFaulted (s : State) : Bool := s.queues.toList.any (fun x => decide (x.state = .faulted))

/-- The attention line (R177): asserted exactly while the log holds an entry or some queue is FAULTED. -/
def State.attentionLine (s : State) : Bool := !s.log.entries.isEmpty || s.someFaulted

/-- Every queue is STOPPED. -/
def State.allStopped (s : State) : Bool := s.queues.toList.all (fun x => decide (x.state = .stopped))

/-- The soft-reset completion test (R168). -/
def State.softResetDone (s : State) : Bool := s.link.softReset && s.allStopped && s.sys.tracker.isEmpty

/-- Does transaction x hold this requester and tag? -/
def Transaction.named (x : Transaction) (r : Requester) (t : Tag) : Bool :=
  decide (x.request.requester = r ∧ x.request.tag = t)

/-- The tracker entry of a requester and tag (R134). -/
def State.transaction (s : State) (r : Requester) (t : Tag) : Option Transaction :=
  s.sys.tracker.find? (fun x => x.named r t)

/-- The taking test of R135 for a request, with the soft-reset stop of R149. -/
def State.canTake (s : State) (q : Request) : Bool :=
  !s.link.softReset && decide (s.sys.tracker.length < Config.trackerEntries) &&
    (s.transaction q.requester q.tag).isNone

/-- The presented request, if any, can be taken. -/
def State.presentedTakes (s : State) : Bool :=
  match s.sys.arrivals with
  | [] => false
  | q :: _ => s.canTake q

/-- The length of a burst as a count of words, every byte 0xFF (R139). -/
def allOnes (L : BurstLength) : List Word := List.replicate L.val (BitVec.allOnes 64)

end Sys2Proof.Machine
end

