-- ==== Sys2Proof/Machine/Operands.lean ====
section
/-! DEFINITION. The layouts software sees: the record header word (R14, R179), management frames and codes (R153, R180), the
payloads of the commands (R181) and the log entry as returned (R182). -/

namespace Sys2Proof.Machine

/-! ### Bytes -/

/-- The number that bytes spell, least significant byte first (R151). -/
def leNat : List Byte → Nat
  | [] => 0
  | b :: bs => b.toNat + 256 * leNat bs

/-- n bytes of a number, least significant byte first (R151). -/
def leBytes : Nat → Nat → List Byte
  | 0, _ => []
  | n + 1, v => BitVec.ofNat 8 v :: leBytes n (v / 256)

/-- The number in a field of `len` bytes from byte `at` on. -/
def field (bs : List Byte) (first len : Nat) : Nat := leNat ((bs.drop first).take len)

/-- The bits of a byte in the order the link carries them, most significant first (R151). -/
def byteBits (b : Byte) : List Bool := (List.range 8).map (fun i => b.getMsbD i)

/-- The number that bits spell, most significant first. -/
def bitsNat (bits : List Bool) : Nat := bits.foldl (fun n b => 2 * n + b.toNat) 0

/-- The whole bytes of a select period: eight clocks each, and the bits after the last whole byte ignored (R151). -/
def wholeBytes : List Bool → List Byte
  | a :: b :: c :: d :: e :: f :: g :: h :: rest => BitVec.ofNat 8 (bitsNat [a, b, c, d, e, f, g, h]) :: wholeBytes rest
  | _ => []

/-- A count in one byte. -/
def byteOf (n : Nat) : Byte := BitVec.ofNat 8 n

/-! ### The header word -/

/-- Byte 1 of a header (R179). -/
def RecordKind.code : RecordKind → Byte
  | .data => 0x01
  | .filler => 0x02

/-- The header word of a record (R14, R179): byte 0, the marker, lowest. -/
def headerWord (kind : RecordKind) (q : QueueId) (producer : Requester) (sequence : Sequence) (L : BurstLength)
    (lastBytes : Nat) : Word :=
  byteOf lastBytes ++ byteOf L.val ++ sequence ++ byteOf producer.val ++ byteOf q.val ++ kind.code ++ (0xA5#8)

/-- The header word of a reservation entry as it stands. A FILLER has last-word bytes 0 (R47, R51). -/
def Entry.header (e : Entry) : Word := headerWord e.kind e.queue e.requester e.sequence e.words e.lastBytes

/-! ### Frames -/

/-- The sum of bytes modulo 256 (R153). -/
def byteSum (bs : List Byte) : Byte := bs.foldl (· + ·) 0

/-- A frame: code, payload length, payload, and the check byte that makes the sum 0 (R153, R156). -/
def mkFrame (code : Byte) (payload : List Byte) : List Byte :=
  let body := code :: byteOf payload.length :: payload
  body ++ [0 - byteSum body]

/-- Command codes (R180). -/
def Command.code : Command → Byte
  | .readStatus => 0x01
  | .readWindow => 0x02
  | .writeWindow => 0x03
  | .readClassMap => 0x04
  | .writeClass => 0x05
  | .readQueue => 0x06
  | .configureQueue => 0x07
  | .queueCommand => 0x08
  | .readLog => 0x09
  | .peekLog => 0x0A
  | .softReset => 0x0B

/-- The commands, in the order of their codes. -/
def Command.all : List Command :=
  [.readStatus, .readWindow, .writeWindow, .readClassMap, .writeClass, .readQueue, .configureQueue, .queueCommand,
    .readLog, .peekLog, .softReset]

/-- The command of a code; none for an unknown code (R154 case 3, R180). -/
def Command.ofCode (b : Byte) : Option Command := Command.all.find? (fun c => c.code = b)

/-- The request payload length of a command (R180). -/
def Command.payloadLength : Command → Nat
  | .readStatus => 0
  | .readWindow => 1
  | .writeWindow => 20
  | .readClassMap => 0
  | .writeClass => 2
  | .readQueue => 1
  | .configureQueue => 29
  | .queueCommand => 2
  | .readLog => 0
  | .peekLog => 0
  | .softReset => 0

/-- Status codes (R180). -/
def Result.code : Result → Byte
  | .done => 0x01
  | .accepted => 0x02
  | .refusedState => 0x10
  | .badConfig => 0x11
  | .badIndex => 0x12
  | .badValue => 0x13
  | .logEmpty => 0x14
  | .busy => 0x20
  | .unknownCommand => 0x21
  | .badFrame => 0x22
  | .notReady => 0x30
  | .noResponse => 0x31

/-- A response frame (R156, R180). -/
def responseFrame (r : Result) (payload : List Byte) : List Byte := mkFrame r.code payload

/-- Is the frame in a request buffer, of a period that delivered `received` whole bytes, well-formed (R153)? -/
def frameWellFormed (buffer : List Byte) (received : Nat) : Bool :=
  match buffer with
  | _ :: n :: _ => decide (n.toNat ≤ 60) && decide (received = 3 + n.toNat) && decide (byteSum buffer = 0)
  | _ => false

/-- The payload of a well-formed frame. -/
def framePayload (buffer : List Byte) : List Byte := (buffer.drop 2).take (buffer.length - 3)

/-! ### Small codes (R181) -/

def boolCode (b : Bool) : Nat := if b then 1 else 0

def boolOf : Nat → Option Bool
  | 0 => some false
  | 1 => some true
  | _ => none

def QueueState.code : QueueState → Nat
  | .stopped => 0
  | .running => 1
  | .draining => 2
  | .stopping => 3
  | .faulted => 4

def ResumeState.code : ResumeState → Nat
  | .running => 1
  | .draining => 2

def FaultReason.code : FaultReason → Nat
  | .fullLatch => 1
  | .emptyLatch => 2
  | .headerWrite => 3
  | .ringRead => 4

/-- 0 when the fault reason is absent. -/
def faultCode : Option FaultReason → Nat
  | none => 0
  | some r => r.code

def Policy.code : Policy → Nat
  | .hold => 0
  | .refuse => 1
  | .latch => 2

def Policy.ofCode : Nat → Option Policy
  | 0 => some .hold
  | 1 => some .refuse
  | 2 => some .latch
  | _ => none

def WindowKind.code : WindowKind → Nat
  | .pass => 0
  | .remap => 1
  | .push => 2
  | .pop => 3
  | .block => 4

def WindowKind.ofCode : Nat → Option WindowKind
  | 0 => some .pass
  | 1 => some .remap
  | 2 => some .push
  | 3 => some .pop
  | 4 => some .block
  | _ => none

def QueueAction.ofCode : Nat → Option QueueAction
  | 1 => some .start
  | 2 => some .drain
  | 3 => some .stop
  | 4 => some .flush
  | 5 => some .clearFault
  | 6 => some .armNotice
  | _ => none

/-- An index byte, below the bound n. -/
def indexOf (n v : Nat) : Option (Fin n) := if h : v < n then some ⟨v, h⟩ else none

/-! ### Window entries (R117, R181) -/

/-- The 19 bytes of a window entry. -/
def Window.bytes (w : Window) : List Byte :=
  [byteOf (boolCode w.enabled)] ++ leBytes 5 w.base.toNat ++ leBytes 5 w.limit.toNat ++
    [byteOf w.kind.code, byteOf w.queue.val] ++ leBytes 5 w.target.toNat ++ [byteOf w.classes.toNat]

/-- The range checks of R117 on the three addresses and the kind. -/
def windowRangesOk (base limit target : Nat) (kind : WindowKind) : Bool :=
  decide (base % 4096 = 0) && decide (limit % 4096 = 0) && decide (target % 4096 = 0) && decide (base ≤ limit) &&
    (decide (kind ≠ .remap) || decide (target + (limit - base) + 4095 < 2 ^ 40))

/-- The window that 19 bytes spell, when every value check of R117 and R181 holds. -/
def Window.ofBytes (bs : List Byte) : Option Window :=
  match boolOf (field bs 0 1), WindowKind.ofCode (field bs 11 1), indexOf 16 (field bs 12 1) with
  | some enabled, some kind, some queue =>
    let base := field bs 1 5
    let limit := field bs 6 5
    let target := field bs 13 5
    let classes := field bs 18 1
    if classes ≤ 15 ∧ windowRangesOk base limit target kind = true then
      some ⟨enabled, BitVec.ofNat 40 base, BitVec.ofNat 40 limit, kind, queue, BitVec.ofNat 40 target,
        BitVec.ofNat 4 classes⟩
    else none
  | _, _, _ => none

/-! ### Queue configurations (R1, R181) -/

/-- The 28 bytes of a queue configuration. -/
def QueueConfig.bytes (c : QueueConfig) : List Byte :=
  leBytes 5 c.ringBase.toNat ++ leBytes 3 c.ringSize ++ [byteOf (c.fullPolicy.code + 16 * c.emptyPolicy.code)] ++
    leBytes 2 c.holdLimit ++ [byteOf (c.directAccess.toNat + 16 * boolCode c.logRetries)] ++
    leBytes 5 c.noticeAddress.toNat ++ leBytes 8 c.noticeValue.toNat ++ leBytes 3 c.threshold

/-- The configuration that 28 bytes spell, when each coded field holds a code of its value set (R181). -/
def QueueConfig.ofBytes (bs : List Byte) : Option QueueConfig :=
  let policies := field bs 8 1
  let access := field bs 11 1
  match Policy.ofCode (policies % 16), Policy.ofCode (policies / 16), boolOf (access / 16) with
  | some fullPolicy, some emptyPolicy, some logRetries =>
    some ⟨BitVec.ofNat 40 (field bs 0 5), field bs 5 3, fullPolicy, emptyPolicy, field bs 9 2, logRetries,
      BitVec.ofNat 4 access, BitVec.ofNat 40 (field bs 12 5), BitVec.ofNat 64 (field bs 17 8), field bs 25 3⟩
  | _, _, _ => none

/-- A power of two from 512 to 2,097,152 (R1). -/
def ringSizeOk (n : Nat) : Bool := (List.range 13).any (fun k => decide (n = 512 * 2 ^ k))

/-- The checks of R10 made for every configuration. -/
def QueueConfig.valuesOk (c : QueueConfig) : Bool :=
  (decide (c.ringSize = 0) || ringSizeOk c.ringSize) && decide (1 ≤ c.holdLimit) && decide (c.holdLimit ≤ 65535) &&
    decide (c.threshold ≤ c.ringSize) && decide (c.noticeAddress.toNat % 8 = 0)

/-- Do the byte ranges [a, a + m) and [b, b + n) share a byte? -/
def rangesMeet (a m b n : Nat) : Bool := decide (a < b + n) && decide (b < a + m)

/-- Does the ring of c hold byte a? False for ring size 0. -/
def QueueConfig.ringHolds (c : QueueConfig) (a : Nat) : Bool :=
  decide (c.ringBase.toNat ≤ a) && decide (a < c.ringBase.toNat + 8 * c.ringSize)

/-- The geometry checks of R10 between a new configuration and that of another queue, whose ring size is not 0. -/
def QueueConfig.clearOf (c other : QueueConfig) : Bool :=
  decide (other.ringSize = 0) ||
    (!rangesMeet c.ringBase.toNat (8 * c.ringSize) other.ringBase.toNat (8 * other.ringSize) &&
      !c.ringHolds other.noticeAddress.toNat && !other.ringHolds c.noticeAddress.toNat)

/-- All the checks of R10 on a configuration for queue q. DEDUCED (log entry 26): with ring size 0 the ring base need not be a
multiple of 4096. -/
def State.configOk (s : State) (q : QueueId) (c : QueueConfig) : Bool :=
  c.valuesOk &&
    (decide (c.ringSize = 0) ||
      (decide (c.ringBase.toNat % 4096 = 0) && decide (c.ringBase.toNat + 8 * c.ringSize ≤ 2 ^ 40) &&
        !c.ringHolds c.noticeAddress.toNat &&
        (List.finRange 16).all (fun p => decide (p = q) || c.clearOf (s.queue p).config)))

/-! ### Responses of the reading commands (R181, R182) -/

/-- How many entries of the list stand in a state (R19). -/
def countIn (es : List Entry) (st : EntryState) : Nat := es.countP (fun e => decide (e.state = st))

/-- The 60 bytes of a READ-QUEUE response (R162). -/
def State.queueBytes (s : State) (q : QueueId) : List Byte :=
  let x := s.queue q
  let es := s.entriesOf q
  x.config.bytes ++ [byteOf (x.state.code + 16 * x.resume.code), byteOf (faultCode x.faultReason)] ++
    leBytes 4 x.release.toNat ++ leBytes 4 x.read.toNat ++ leBytes 4 x.commit.toNat ++ leBytes 4 x.reserve.toNat ++
    leBytes 2 x.nextSequence.toNat ++
    [byteOf (countIn es .filling), byteOf (countIn es .writing), byteOf (countIn es .sealing),
      byteOf (countIn es .closed), byteOf (countIn es .discarding), byteOf (countIn es .failed),
      byteOf x.popEntries.length, byteOf (x.popEntries.countP (fun p => p.errorSeen)), byteOf x.pushWaiters.length,
      byteOf x.popWaiters.length, byteOf (boolCode x.noticeArmed), byteOf x.notices.length]

/-- The 24 bytes of a READ-STATUS response (R157). -/
def State.statusBytes (s : State) : List Byte :=
  leBytes 2 0x3160 ++
    [byteOf 1, byteOf 16, byteOf 32, byteOf (boolCode s.link.softReset), byteOf (boolCode s.attentionLine)] ++
    s.queues.toList.map (fun x => byteOf x.state.code) ++ [byteOf s.log.entries.length]

/-- The class of a requester (R118). -/
def State.classOf (s : State) (r : Requester) : RequesterClass := s.classes[r]

/-- Byte k of the READ-CLASS-MAP response: the classes of requesters 4k to 4k + 3. -/
def packClasses : List RequesterClass → Nat
  | [] => 0
  | c :: cs => c.val + 4 * packClasses cs

/-- The 16 bytes of a READ-CLASS-MAP response (R160). -/
def State.classMapBytes (s : State) : List Byte :=
  (List.range 16).map (fun k => byteOf (packClasses ((s.classes.toList.drop (4 * k)).take 4)))

/-- Reason codes (R182). -/
def Reason.code : Reason → Byte
  | .align => 0x01
  | .boundary => 0x02
  | .kind => 0x03
  | .blocked => 0x04
  | .guard => 0x05
  | .memory => 0x06
  | .state => 0x10
  | .faulted => 0x11
  | .latched => 0x12
  | .drained => 0x13
  | .abandoned => 0x14
  | .headerWrite => 0x15
  | .ringRead => 0x16
  | .full => 0x20
  | .empty => 0x21
  | .noSlot => 0x22
  | .timeout => 0x23
  | .queueFaulted => 0x30
  | .noticeFault => 0x31

def AbandonCause.code : AbandonCause → Nat
  | .poison => 1
  | .payloadError => 2
  | .stop => 3

/-- The words byte (R182). -/
def LogWords.code : LogWords → Nat
  | .count n => n
  | .cause c => c.code
  | .fault r => r.code

/-- The presence byte (R182). -/
def LogEntry.presence (e : LogEntry) : Nat :=
  boolCode e.origin.isSome + 2 * boolCode e.address.isSome + 4 * boolCode e.queue.isSome +
    8 * boolCode e.sequence.isSome + 16 * boolCode e.words.isSome

/-- The value of an optional field; an absent field is sent as zero (R182). -/
def absentZero {α : Type} (x : Option α) (value : α → Nat) : Nat :=
  match x with
  | none => 0
  | some a => value a

/-- The 15 bytes of a log entry with the lost count (R182). -/
def LogEntry.bytes (e : LogEntry) (lost : Nat) : List Byte :=
  [e.reason.code, byteOf e.presence, byteOf (absentZero e.origin (fun o => o.1.val)),
      byteOf (absentZero e.origin (fun o => o.2.val))] ++
    leBytes 5 (absentZero e.address (fun a => a.toNat)) ++ [byteOf (absentZero e.queue (fun q => q.val))] ++
    leBytes 2 (absentZero e.sequence (fun n => n.toNat)) ++ [byteOf (absentZero e.words LogWords.code)] ++
    leBytes 2 lost

end Sys2Proof.Machine
end

