-- ==== Sys2Proof/Machine/Ops.lean ====
section
/-! DEFINITION. The named operations every command is made of: one update per block of State, the log append (R172, R175),
answers and responses (R134, R138), and the presentation of memory requests (R145). -/

namespace Sys2Proof.Machine

/-! ### One update per block -/

def State.withSys (s : State) (x : SystemPort) : State := { s with sys := x }
def State.withWindows (s : State) (x : Vector Window 32) : State := { s with windows := x }
def State.withClasses (s : State) (x : Vector RequesterClass 64) : State := { s with classes := x }
def State.withReservations (s : State) (x : List Entry) : State := { s with reservations := x }
def State.withHold (s : State) (x : HoldUnit) : State := { s with hold := x }
def State.withMem (s : State) (x : MemoryPort) : State := { s with mem := x }
def State.withLink (s : State) (x : Link) : State := { s with link := x }
def State.withLog (s : State) (x : ExceptionLog) : State := { s with log := x }
def State.withArbiterDue (s : State) (x : Bool) : State := { s with arbiterDue := x }
def State.withPending (s : State) (x : List Instr) : State := { s with pending := x }

/-- A free value has been taken: the next one is taken at the next place. -/
def State.useFree (s : State) : State := { s with freeUses := s.freeUses + 1 }

/-- Replace the context of queue q. -/
def State.setQueue (s : State) (q : QueueId) (x : Queue) : State :=
  { s with queues := s.queues.set q.val x q.isLt }

/-- Change the context of queue q. -/
def State.modifyQueue (s : State) (q : QueueId) (f : Queue → Queue) : State := s.setQueue q (f (s.queue q))

/-- The outputs show the latest command: each command begins with none (log entry 12). -/
def State.clearOutputs (s : State) : State :=
  ((s.withSys { s.sys with sent := [] }).withMem { s.mem with handed := [] }).withLink { s.link with dataOut := [] }

/-! ### The Exception Log -/

/-- Append an entry; an append that finds the log full is dropped and counted (R172, R175). -/
def ExceptionLog.append (l : ExceptionLog) (e : LogEntry) : ExceptionLog :=
  if l.entries.length < Config.logEntries then { l with entries := l.entries ++ [e] }
  else { l with lost := if l.lost < Config.lostLimit then l.lost + 1 else l.lost }

/-- Append an entry to the log. -/
def State.appendLog (s : State) (e : LogEntry) : State := s.withLog (s.log.append e)

/-! ### Answers and responses -/

/-- The data of an answer: the words of a read answered OK, all-ones for any other read, none for a write (R133, R139). -/
def answerData (r : Request) (status : Status) (data : List Word) : List Word :=
  match r.direction, status with
  | .write, _ => []
  | .read, .ok => data
  | .read, _ => allOnes r.beats

/-- Can the response of an answered transaction leave? A read's at once, a write's when its beats are in (R138). -/
def Transaction.beatsIn (x : Transaction) : Bool :=
  decide (x.request.direction = .read) || decide (x.received = x.request.beats.val)

/-- Replace the tracker entry of x's requester and tag by x. -/
def State.setTransaction (s : State) (x : Transaction) : State :=
  s.withSys { s.sys with
    tracker := s.sys.tracker.map (fun y => if y.named x.request.requester x.request.tag then x else y) }

/-- Send the response of an answered transaction and free its tracker entry (R138). -/
def State.sendResponse (s : State) (x : Transaction) (a : Answer) : State :=
  s.withSys { s.sys with
    tracker := s.sys.tracker.filter (fun y => !y.named x.request.requester x.request.tag)
    sent := s.sys.sent ++ [⟨x.request.requester, x.request.tag, a.status, a.data⟩] }

/-- Give a transaction its answer (R134). The response is sent when its beats are in; a write answered before that drops
its beats from now on (R137). A second answer is never given. -/
def State.answer (s : State) (r : Requester) (t : Tag) (status : Status) (reason : Option Reason) (data : List Word) :
    State :=
  match s.transaction r t with
  | none => s
  | some x =>
    if x.answer.isSome then s
    else
      let a : Answer := ⟨status, reason, answerData x.request status data⟩
      if x.beatsIn then s.sendResponse x a
      else s.setTransaction { x with answer := some a, beatMode := some .dropping }

/-- Answer OK. -/
def State.answerOk (s : State) (r : Requester) (t : Tag) (data : List Word) : State := s.answer r t .ok none data

/-- Answer DECLINE with its log entry (R172). -/
def State.decline (s : State) (r : Requester) (t : Tag) (e : LogEntry) : State :=
  (s.appendLog e).answer r t .decline (some e.reason) []

/-- Answer a push or pop of queue q DECLINE for a reason that logs requester, tag and queue (R75, R80, R83). -/
def State.declineQueue (s : State) (q : QueueId) (r : Requester) (t : Tag) (reason : Reason) : State :=
  s.decline r t { reason := reason, origin := some (r, t), queue := some q }

/-- Answer a request refused by form, decode or memory: requester, tag and the address the requester sent (R124, R136,
R142). -/
def State.declineAddress (s : State) (x : Request) (reason : Reason) : State :=
  s.decline x.requester x.tag { reason := reason, origin := some (x.requester, x.tag), address := some x.address }

/-- Answer RETRY, logged where the queue's log-retries field is yes (R173). -/
def State.retry (s : State) (q : QueueId) (r : Requester) (t : Tag) (reason : Reason) : State :=
  let s' := if (s.queue q).config.logRetries then
      s.appendLog { reason := reason, origin := some (r, t), queue := some q }
    else s
  s'.answer r t .retry (some reason) []

/-- Set the beat mode of a tracked write (R137). -/
def State.setBeatMode (s : State) (r : Requester) (t : Tag) (m : BeatMode) : State :=
  match s.transaction r t with
  | none => s
  | some x => s.setTransaction { x with beatMode := some m }

/-! ### Memory requests -/

/-- Present requests to the arbiter, in order (R145). -/
def State.present (s : State) (rs : List MemRequest) : State :=
  s.withMem { s.mem with waiting := s.mem.waiting ++ rs }

/-- A whole word, all 8 bytes enabled, not poisoned (R23, R26, R30, R110). -/
def wholeBeat (w : Word) : Beat := ⟨w, BitVec.allOnes 8, false⟩

/-- A write request of whole words. -/
def wholeWrite (owner : Owner) (address : Addr) (data : List Word) : MemRequest :=
  ⟨owner, .write, address, data.length, data.map wholeBeat⟩

/-- A read request. -/
def readRequest (owner : Owner) (address : Addr) (words : Nat) : MemRequest := ⟨owner, .read, address, words, []⟩

/-- The payload writes of an entry: L words from start + 1 on, one request or two (R26). -/
def payloadWrites (c : QueueConfig) (e : Entry) : List MemRequest :=
  (c.ringPieces (advance e.start 1) e.words.val).map (fun p =>
    wholeWrite (.payload e.queue e.start) p.address ((e.gathered.drop p.first).take p.words))

/-- The header write of an entry: one word at its start position (R30, R47). -/
def headerWrite (c : QueueConfig) (e : Entry) : MemRequest :=
  wholeWrite (.header e.queue e.start) (c.wordAddress (c.ringWord e.start)) [e.header]

/-- The ring reads of a pop: L words from its start on, one request or two (R58). -/
def popReads (c : QueueConfig) (q : QueueId) (start : Position) (L : BurstLength) : List MemRequest :=
  (c.ringPieces start L.val).map (fun p => readRequest (.popRead q start p.first) p.address p.words)

/-! ### Reservation entries -/

/-- Is y the entry that x is? A queue and a start position name an entry (R20). -/
def Entry.same (x y : Entry) : Bool := decide (x.queue = y.queue ∧ x.start = y.start)

/-- Replace the entry of x's queue and start position by x. -/
def State.setEntry (s : State) (x : Entry) : State :=
  s.withReservations (s.reservations.map (fun y => if x.same y then x else y))

/-- Free an entry (R18). -/
def State.freeEntry (s : State) (x : Entry) : State :=
  s.withReservations (s.reservations.filter (fun y => !x.same y))

/-- The entry of a queue and start position. -/
def State.entryAt (s : State) (q : QueueId) (p : Position) : Option Entry :=
  s.reservations.find? (fun e => e.queue = q ∧ e.start = p)

/-- The entry that beats of a transaction are handed to: the one of that requester and tag still taking beats (R23,
R40). -/
def State.fillingEntry (s : State) (r : Requester) (t : Tag) : Option Entry :=
  s.reservations.find? (fun e => e.requester = r ∧ e.tag = t ∧ (e.state = .filling ∨ e.state = .discarding))

/-! ### Waiter lists -/

/-- The two waiter lists of a queue (R77). -/
inductive Side where
  | push
  | pop
  deriving DecidableEq, Repr

def Queue.waiters (x : Queue) : Side → List Waiter
  | .push => x.pushWaiters
  | .pop => x.popWaiters

def Queue.withWaiters (x : Queue) (side : Side) (ws : List Waiter) : Queue :=
  match side with
  | .push => { x with pushWaiters := ws }
  | .pop => { x with popWaiters := ws }

/-- Replace a waiter list of queue q. -/
def State.setWaiters (s : State) (q : QueueId) (side : Side) (ws : List Waiter) : State :=
  s.modifyQueue q (fun x => x.withWaiters side ws)

end Sys2Proof.Machine
end

