-- ==== Sys2Proof/Machine/QueueEngine.lean ====
section
/-! DEFINITION. The Queue Engine, Hold Unit and Notice Unit operations that grant no freed entry: grants (R21, R57), joins and
releases (R76, R83), re-examination (R78, R80), the notice check (R109), faults (R98), the arrival at STOPPED (R97) and the
decisions for a push and a pop (R71 to R74). -/

namespace Sys2Proof.Machine

/-! ### Grants -/

/-- The reservation entry a grant makes (R21). DESIGN CHOICE (log entry 27): last-word bytes stand at 0 until the last beat
records them; nothing reads them before that. -/
def newEntry (q : QueueId) (x : Queue) (r : Requester) (t : Tag) (L : BurstLength) : Entry where
  queue := q
  requester := r
  tag := t
  start := x.reserve
  words := L
  sequence := x.nextSequence
  beatsTaken := 0
  gathered := []
  lastBytes := 0
  writesOutstanding := 0
  kind := .data
  cause := none
  state := .filling

/-- Grant a push of payload length L on queue q (R21); its beats may now be handed over (R22, R137). -/
def State.grantPush (s : State) (q : QueueId) (r : Requester) (t : Tag) (L : BurstLength) : State :=
  let e := newEntry q (s.queue q) r t L
  ((s.withReservations (s.reservations ++ [e])).modifyQueue q (fun x =>
    { x with reserve := advance x.reserve (recordWords L), nextSequence := x.nextSequence + 1 })).setBeatMode r t .handing

/-- The pop entry a grant makes, with so many ring reads issued (R57). -/
def newPopEntry (x : Queue) (r : Requester) (t : Tag) (L : BurstLength) (reads : Nat) : PopEntry where
  start := x.read
  words := L
  requester := r
  tag := t
  readsOutstanding := reads
  errorSeen := false
  returned := List.replicate L.val none

/-- The re-arm cause of a pop grant or FLUSH: visible is below a threshold that is not 0 (R113). -/
def Queue.rearmBelow (x : Queue) : Queue :=
  if x.config.threshold ≠ 0 ∧ x.visible < x.config.threshold then { x with noticeArmed := true } else x

/-- Grant a pop of L words on queue q (R57, R58, R113). -/
def State.grantPop (s : State) (q : QueueId) (r : Requester) (t : Tag) (L : BurstLength) : State :=
  let x := s.queue q
  let reads := popReads x.config q x.read L
  let granted := { x with
    read := advance x.read L.val
    popEntries := x.popEntries ++ [newPopEntry x r t L reads.length] }
  (s.setQueue q granted.rearmBelow).present reads

/-! ### Joins and releases -/

/-- A request joins the end of a waiter list if a hold slot is free, and is answered RETRY (NO-SLOT) otherwise (R71, R73,
R76, R77, R81). A push that joins has none of its beats taken (R137). -/
def State.join (s : State) (q : QueueId) (side : Side) (r : Requester) (t : Tag) (L : BurstLength) : State :=
  if s.slotFree then
    let w : Waiter := ⟨r, t, L, s.hold.nextJoin, s.hold.clock + (s.queue q).config.holdLimit⟩
    (s.setWaiters q side ((s.queue q).waiters side ++ [w])).withHold { s.hold with nextJoin := s.hold.nextJoin + 1 }
  else s.retry q r t .noSlot

/-- Answer each waiter of a list that has been emptied DECLINE, in list order (R83). -/
def State.declineWaiters (s : State) (q : QueueId) (reason : Reason) (ws : List Waiter) : State :=
  ws.foldl (fun s w => s.declineQueue q w.requester w.tag reason) s

/-- Release a waiter list of queue q (R83). -/
def State.releaseList (s : State) (q : QueueId) (side : Side) (reason : Reason) : State :=
  (s.setWaiters q side []).declineWaiters q reason ((s.queue q).waiters side)

/-- Release every waiter of queue q: the Push Waiter list, then the Pop Waiter list (R83). -/
def State.releaseAll (s : State) (q : QueueId) (reason : Reason) : State :=
  (s.releaseList q .push reason).releaseList q .pop reason

/-! ### Re-examination -/

/-- Can a push of payload length L be granted on queue q: space and an entry (R71, R78)? -/
def State.pushFits (s : State) (q : QueueId) (L : BurstLength) : Bool :=
  decide (recordWords L ≤ (s.queue q).free) && s.entryFree

/-- Re-examine the waiters `ws`, the Push Waiter list of queue q (R78). -/
def State.reexaminePushFrom (s : State) (q : QueueId) : List Waiter → State
  | [] => s
  | w :: ws =>
    if s.pushFits q w.length then
      ((s.setWaiters q .push ws).grantPush q w.requester w.tag w.length).reexaminePushFrom q ws
    else s

/-- Re-examination of the Push Waiter list of queue q (R78). -/
def State.reexaminePush (s : State) (q : QueueId) : State := s.reexaminePushFrom q (s.queue q).pushWaiters

/-- Can a pop of L words be granted on queue q: words and a place in its Pop Entry List (R73, R80)? -/
def State.popFits (s : State) (q : QueueId) (L : BurstLength) : Bool :=
  decide (L.val ≤ (s.queue q).visible) && decide ((s.queue q).popEntries.length < Config.popEntries)

/-- No further word can become visible for a pop of L words that visible cannot satisfy (R74, R80). -/
def State.drainedFor (s : State) (q : QueueId) (L : BurstLength) : Bool :=
  decide ((s.queue q).visible < L.val) && decide ((s.queue q).state = .draining) && s.ownsNone q

/-- Re-examine the waiters `ws`, the Pop Waiter list of queue q (R80). -/
def State.reexaminePopFrom (s : State) (q : QueueId) : List Waiter → State
  | [] => s
  | w :: ws =>
    if s.popFits q w.length then
      ((s.setWaiters q .pop ws).grantPop q w.requester w.tag w.length).reexaminePopFrom q ws
    else if s.drainedFor q w.length then
      ((s.setWaiters q .pop ws).declineQueue q w.requester w.tag .drained).reexaminePopFrom q ws
    else s

/-- Re-examination of the Pop Waiter list of queue q, RUNNING or DRAINING (R80). -/
def State.reexaminePop (s : State) (q : QueueId) : State :=
  match (s.queue q).state with
  | .running => s.reexaminePopFrom q (s.queue q).popWaiters
  | .draining => s.reexaminePopFrom q (s.queue q).popWaiters
  | _ => s

/-- Re-examination of a waiter list. -/
def State.reexamine (s : State) (q : QueueId) : Side → State
  | .push => s.reexaminePush q
  | .pop => s.reexaminePop q

/-! ### Notices -/

/-- Does the notice check of a queue fire (R109)? -/
def Queue.noticeFires (x : Queue) : Bool :=
  x.noticeArmed && decide (x.config.threshold ≠ 0) && decide (x.config.threshold ≤ x.visible) &&
    decide (x.notices.length < Config.noticeWrites)

/-- The notice check of queue q (R109), and the notice write when it fires (R110). -/
def State.noticeCheck (s : State) (q : QueueId) : State :=
  let x := s.queue q
  if x.noticeFires then
    (s.setQueue q { x with
      noticeArmed := false
      notices := x.notices ++ [⟨x.config.noticeAddress, x.config.noticeValue⟩] }).present
      [wholeWrite (.notice q) x.config.noticeAddress [x.config.noticeValue]]
  else s

/-! ### Faults and the arrival at STOPPED -/

/-- The state a queue resumes to (R98). -/
def QueueState.toResume : QueueState → ResumeState
  | .draining => .draining
  | _ => .running

/-- Steps 2 to 4 of the entry into FAULTED (R98), from RUNNING or DRAINING. -/
def State.enterFaulted (s : State) (q : QueueId) (reason : FaultReason) : State :=
  ((s.modifyQueue q (fun x =>
      { x with state := .faulted, faultReason := some reason, resume := x.state.toResume })).appendLog
    { reason := .queueFaulted, queue := some q, words := some (.fault reason) }).releaseAll q .faulted

/-- A fault trigger: a queue in RUNNING or DRAINING enters FAULTED (R98), any other is not moved (R100). -/
def State.faultTrigger (s : State) (q : QueueId) (reason : FaultReason) : State :=
  match (s.queue q).state with
  | .running => s.enterFaulted q reason
  | .draining => s.enterFaulted q reason
  | _ => s

/-- The dynamic fields of a queue that arrives at STOPPED (R97). -/
def Queue.arrived (x : Queue) : Queue :=
  { x with
    state := .stopped
    release := 0
    read := 0
    commit := 0
    reserve := 0
    nextSequence := 0
    faultReason := none
    resume := .running
    noticeArmed := false }

/-- Test the drain-completion condition (R93). -/
def State.testDrain (s : State) (q : QueueId) : State :=
  if s.drainComplete q then s.modifyQueue q Queue.arrived else s

/-- Test the stop-completion condition (R96). -/
def State.testStop (s : State) (q : QueueId) : State :=
  if s.stopComplete q then s.modifyQueue q Queue.arrived else s

/-! ### The decisions -/

/-- Case 4 of R71: the full policy (R72). -/
def State.applyFullPolicy (s : State) (q : QueueId) (r : Requester) (t : Tag) (L : BurstLength) : State :=
  match (s.queue q).config.fullPolicy with
  | .hold => s.join q .push r t L
  | .refuse => s.retry q r t .full
  | .latch => (s.declineQueue q r t .latched).faultTrigger q .fullLatch

/-- The decision for a push of payload length L on queue q (R71). -/
def State.decidePush (s : State) (q : QueueId) (r : Requester) (t : Tag) (L : BurstLength) : State :=
  let x := s.queue q
  if x.config.ringSize = 0 then s.declineQueue q r t .state
  else
    match x.state with
    | .stopped => s.declineQueue q r t .state
    | .stopping => s.declineQueue q r t .state
    | .draining => s.declineQueue q r t .state
    | .faulted => s.declineQueue q r t .faulted
    | .running =>
      if x.pushWaiters ≠ [] then s.join q .push r t L
      else if x.free < recordWords L then s.applyFullPolicy q r t L
      else if s.entryFree then s.grantPush q r t L
      else s.join q .push r t L

/-- The empty policy (R74). -/
def State.applyEmptyPolicy (s : State) (q : QueueId) (r : Requester) (t : Tag) (L : BurstLength) : State :=
  match (s.queue q).config.emptyPolicy with
  | .hold => s.join q .pop r t L
  | .refuse => s.retry q r t .empty
  | .latch => (s.declineQueue q r t .latched).faultTrigger q .emptyLatch

/-- Cases 3 to 6 of the decision for a pop, in RUNNING or DRAINING (R73, R74). -/
def State.decidePopActive (s : State) (q : QueueId) (r : Requester) (t : Tag) (L : BurstLength) : State :=
  let x := s.queue q
  if x.popWaiters ≠ [] then s.join q .pop r t L
  else if x.visible < L.val then
    if s.drainedFor q L then s.declineQueue q r t .drained else s.applyEmptyPolicy q r t L
  else if x.popEntries.length < Config.popEntries then s.grantPop q r t L
  else s.join q .pop r t L

/-- The decision for a pop of L words on queue q (R73). -/
def State.decidePop (s : State) (q : QueueId) (r : Requester) (t : Tag) (L : BurstLength) : State :=
  let x := s.queue q
  if x.config.ringSize = 0 then s.declineQueue q r t .state
  else
    match x.state with
    | .stopped => s.declineQueue q r t .state
    | .stopping => s.declineQueue q r t .state
    | .faulted => s.declineQueue q r t .faulted
    | .running => s.decidePopActive q r t L
    | .draining => s.decidePopActive q r t L

end Sys2Proof.Machine
end

