-- ==== Sys2Proof/Machine/Decoder.lean ====
section
/-! DEFINITION. The Window Decoder: the winning window (R120), the outcome of a decode (R121 to R123) and the ring guard
(R125). -/

namespace Sys2Proof.Machine

/-- Does the window win a request of class c at address a (R120)? -/
def Window.wins (w : Window) (c : RequesterClass) (a : Addr) : Bool :=
  w.enabled && decide (w.base.toNat ≤ a.toNat) && decide (a.toNat ≤ w.limit.toNat + 4095) && inClasses w.classes c

/-- The winning entry: the first in order of entry number (R120). -/
def State.winner (s : State) (c : RequesterClass) (a : Addr) : Option Window :=
  s.windows.toList.find? (fun w => w.wins c a)

/-- Does the ring guard refuse class c an access of L words at memory address m (R125)? -/
def State.guarded (s : State) (c : RequesterClass) (m : Addr) (L : BurstLength) : Bool :=
  s.queues.toList.any (fun x =>
    decide (x.config.ringSize ≠ 0) &&
      rangesMeet m.toNat (8 * L.val) x.config.ringBase.toNat (8 * x.config.ringSize) &&
      !inClasses x.config.directAccess c)

/-- A memory access at address m, unless the guard refuses it (R121, R125). -/
def State.guardAccess (s : State) (c : RequesterClass) (m : Addr) (L : BurstLength) : Decoded :=
  if s.guarded c m L then .refused .guard else .access m

/-- The outcome of the decode of a request (R119 to R125). -/
def State.decode (s : State) (q : Request) : Decoded :=
  let c := s.classOf q.requester
  match s.winner c q.address with
  | none => s.guardAccess c q.address q.beats
  | some w =>
    match w.kind, q.direction with
    | .pass, _ => s.guardAccess c q.address q.beats
    | .remap, _ => s.guardAccess c (w.target + (q.address - w.base)) q.beats
    | .push, .write => .push w.queue
    | .push, .read => .refused .kind
    | .pop, .read => .pop w.queue
    | .pop, .write => .refused .kind
    | .block, _ => .refused .blocked

/-- The form checks (R136): the reason of the first that fails. -/
def formCheck (q : Request) : Option Reason :=
  if q.address.toNat % 8 ≠ 0 then some .align
  else if Config.pageBytes < q.address.toNat % Config.pageBytes + 8 * q.beats.val then some .boundary
  else none

/-- How a taken request will be carried (R119, R134, R136). -/
def State.outcome (s : State) (q : Request) : Decoded :=
  match formCheck q with
  | some _ => .portRefused
  | none => s.decode q

/-- The beat mode a taking sets (R137). A push waits for its decision, which sets it in the same event. -/
def initialBeatMode (q : Request) (d : Decoded) : Option BeatMode :=
  match q.direction, d with
  | .read, _ => none
  | .write, .access _ => some .gathering
  | .write, .push _ => some .waiting
  | .write, _ => some .dropping

/-- The tracker entry of a taken request (R134). -/
def newTransaction (q : Request) (d : Decoded) : Transaction := ⟨q, d, initialBeatMode q d, 0, [], none⟩

/-- Carry a taken request by its outcome (R119, R124, R136, R140). -/
def State.carry (s : State) (q : Request) (d : Decoded) : State :=
  match d with
  | .portRefused => s.declineAddress q ((formCheck q).getD .align)
  | .refused reason => s.declineAddress q reason
  | .push k => s.decidePush k q.requester q.tag q.beats
  | .pop k => s.decidePop k q.requester q.tag q.beats
  | .access m =>
    match q.direction with
    | .read => s.present [readRequest (.passThrough q.requester q.tag) m q.beats.val]
    | .write => s

/-- Take a request: a tracker entry, the form checks, the decode and the decision, in one event (R135, R136, R119). -/
def State.take (s : State) (q : Request) : State :=
  let d := s.outcome q
  (s.withSys { s.sys with tracker := s.sys.tracker ++ [newTransaction q d] }).carry q d

/-- Take requests in arrival order until one cannot be taken (R135). DESIGN CHOICE (log entry 29): the request that becomes
the presented one is tested and taken in the same event. -/
def State.takeFrom (s : State) : List Request → State
  | [] => s
  | q :: qs =>
    if s.canTake q then ((s.withSys { s.sys with arrivals := qs }).take q).takeFrom qs else s

/-- Run the taking test for the presented request, and for each that becomes the presented one (R135). -/
def State.takePresented (s : State) : State := s.takeFrom s.sys.arrivals

/-- The completion of a soft reset (R169): the log emptied, the flag cleared. The taking test follows in `finish`. -/
def State.completeSoftReset (s : State) : State :=
  (s.withLog ⟨[], 0⟩).withLink { s.link with softReset := false }

/-- The end of a command that may answer transactions or bring queues to STOPPED: the soft-reset completion test (R168),
and the taking test when a tracker entry was freed or the port resumes (R135, R138, R169). -/
def State.finish (s : State) : State :=
  if s.softResetDone then s.completeSoftReset.takePresented
  else if s.sys.sent.isEmpty then s else s.takePresented

end Sys2Proof.Machine
end

