-- ==== Sys2Proof/Machine/Records.lean ====
section
/-! DEFINITION. What happens to a record after its grant: the reservation-entry arbiter (R36), beats (R23 to R25, R40), commit
advance (R33, R35), resolution, rewind and FILLER (R43 to R47), header completions (R31, R32, R48, R49) and payload write
completions (R27, R28, R41). -/

namespace Sys2Proof.Machine

/-! ### The reservation-entry arbiter -/

/-- The head of the Push Waiter list of queue q, if its queue has room for it (R36). -/
def State.eligibleHead (s : State) (q : QueueId) : Option Waiter :=
  match (s.queue q).pushWaiters with
  | [] => none
  | w :: _ => if recordWords w.length ≤ (s.queue q).free then some w else none

/-- The earlier joined of two candidates (R36). -/
def earlier (a b : Option (QueueId × Waiter)) : Option (QueueId × Waiter) :=
  match a, b with
  | none, b => b
  | a, none => a
  | some x, some y => if y.2.joinOrder < x.2.joinOrder then some y else some x

/-- The eligible head that joined its list earliest (R36). -/
def State.earliestEligible (s : State) : Option (QueueId × Waiter) :=
  (List.finRange 16).foldl (fun best q => earlier best ((s.eligibleHead q).map (fun w => (q, w)))) none

/-- Grant the head of a Push Waiter list: it leaves the list (R36, R38). -/
def State.grantHead (s : State) (q : QueueId) (w : Waiter) : State :=
  (s.setWaiters q .push (s.queue q).pushWaiters.tail).grantPush q w.requester w.tag w.length

/-- The arbiter for so many free entries: grant while an entry is free and a head is eligible (R36). -/
def State.arbitrateFor (s : State) : Nat → State
  | 0 => s
  | n + 1 =>
    match s.earliestEligible with
    | none => s
    | some c => (s.grantHead c.1 c.2).arbitrateFor n

/-- The reservation-entry arbiter (R36). -/
def State.arbitrate (s : State) : State := s.arbitrateFor (Config.reservationEntries - s.reservations.length)

/-- Is the request a push for a queue whose Push Waiter list is empty and whose free suffices (the case of R37)? -/
def State.contends (s : State) (q : Request) : Bool :=
  match s.outcome q with
  | .push k =>
    decide ((s.queue k).state = .running) && (s.queue k).pushWaiters.isEmpty &&
      decide (recordWords q.beats ≤ (s.queue k).free)
  | _ => false

/-- The next command is the TAKE_REQUEST of such a push, and the port will take it (R37, R135). -/
def State.pushArriving (s : State) : Bool :=
  match s.pending with
  | .takeRequest q :: _ => s.sys.arrivals.isEmpty && s.canTake q && s.contends q
  | _ => false

/-- What the freeing of an entry starts (R36). Where a push waits and a new push reaches the same moment, either may come
first (R37): a free value. The new push is the presented request that this event's responses let in, or the one the next
command brings; where the latter comes first, the arbiter's run is put off to the end of that command (log entry 8). -/
def State.entryFreed (s : State) : State :=
  if s.noPushWaiter then s
  else if s.presentedTakes then
    if Config.takeBeforeArbiter s.freeUses then s.useFree.takePresented.arbitrate else s.useFree.arbitrate
  else if s.pushArriving then
    if Config.takeBeforeArbiter s.freeUses then s.useFree.withArbiterDue true else s.useFree.arbitrate
  else s.arbitrate

/-! ### Commit advance -/

/-- Pass CLOSED entries from the oldest on, at most n of them (R33). -/
def State.passClosed (s : State) (q : QueueId) : Nat → State
  | 0 => s
  | n + 1 =>
    match s.oldest q with
    | none => s
    | some e =>
      if e.state = .closed then
        ((s.freeEntry e).modifyQueue q (fun x =>
          { x with commit := advance e.start (recordWords e.words) })).passClosed q n
      else s

/-- The consequences of a commit advance, in the order of R35. -/
def State.commitConsequences (s : State) (q : QueueId) : State :=
  (((s.noticeCheck q).reexaminePop q).testDrain q).entryFreed

/-- Does a commit attempt on queue q pass an entry (R33)? -/
def State.commitPasses (s : State) (q : QueueId) : Bool :=
  match s.oldest q with
  | none => false
  | some e => decide (e.state = .closed)

/-- Attempt a commit advance of queue q (R33, R35). -/
def State.commitAttempt (s : State) (q : QueueId) : State :=
  if s.commitPasses q then (s.passClosed q s.reservations.length).commitConsequences q else s

/-! ### Resolution -/

/-- The push list re-examination and the arbiter after a rewind (R45), in either order (R79): a free value where a push
waits at all. -/
def State.rewindGrants (s : State) (q : QueueId) : State :=
  if s.noPushWaiter then s
  else if Config.arbiterBeforeReexamination s.freeUses then s.useFree.entryFreed.reexaminePush q
  else (s.useFree.reexaminePush q).entryFreed

/-- In DRAINING with no entry left, the Pop Waiter list is re-examined and the drain-completion condition tested (R45,
R80, R93). -/
def State.lastEntryGone (s : State) (q : QueueId) : State :=
  if (s.queue q).state = .draining ∧ s.ownsNone q = true then (s.reexaminePop q).testDrain q else s

/-- Rewind the youngest entry (R44) with its consequences (R45). -/
def State.rewind (s : State) (e : Entry) : State :=
  ((((s.freeEntry e).modifyQueue e.queue (fun x =>
    { x with reserve := e.start, nextSequence := e.sequence })).rewindGrants e.queue).commitAttempt e.queue).lastEntryGone
      e.queue

/-- An entry as a FILLER whose header write is issued (R47, R51). -/
def Entry.asFiller (e : Entry) : Entry := { e with kind := .filler, lastBytes := 0, state := .sealing }

/-- Make an entry a FILLER and present its header write (R47, R51). -/
def State.issueFiller (s : State) (e : Entry) : State :=
  (s.setEntry e.asFiller).present [headerWrite (s.queue e.queue).config e.asFiller]

/-- The ABANDONED log entry of an entry (R43). -/
def Entry.abandonedLog (e : Entry) : LogEntry where
  reason := .abandoned
  origin := some (e.requester, e.tag)
  queue := some e.queue
  sequence := some e.sequence
  words := e.cause.map LogWords.cause

/-- Resolve an entry that is ready for resolution (R43): its producer is answered DECLINE (ABANDONED), and the first case
that applies is taken. -/
def State.resolve (s : State) (e : Entry) : State :=
  let s' := s.decline e.requester e.tag e.abandonedLog
  if (s.queue e.queue).state = .stopping then ((s'.freeEntry e).entryFreed).testStop e.queue
  else if s.isYoungest e then s'.rewind e
  else s'.issueFiller e

/-- Store an entry, and resolve it if it is ready for resolution (R41). -/
def State.settleEntry (s : State) (e : Entry) : State :=
  if e.ready then (s.setEntry e).resolve e else s.setEntry e

/-! ### Beats -/

/-- The bits of the enabled lanes. -/
def laneMask (lanes : Lanes) : Word :=
  (List.range 8).foldl (fun m i => if lanes.getLsbD i then m ||| (0xFF#64 <<< (8 * i)) else m) 0

/-- The word of a beat: bytes whose lane is not enabled are zero (R23). -/
def beatWord (b : Beat) : Word := b.data &&& laneMask b.lanes

/-- The number of enabled lanes (R24). -/
def laneCount (lanes : Lanes) : Nat := (List.range 8).countP (fun i => lanes.getLsbD i)

/-- The cause once an event would record c: a cause already recorded stays (R39). -/
def recordCause (old : Option AbandonCause) (c : AbandonCause) : Option AbandonCause :=
  match old with
  | none => some c
  | some k => some k

/-- A beat handed for an entry in FILLING and not poisoned (R23). -/
def Entry.gather (e : Entry) (b : Beat) : Entry :=
  { e with gathered := e.gathered ++ [beatWord b], beatsTaken := e.beatsTaken + 1 }

/-- A poisoned beat handed for an entry in FILLING (R25, R40). -/
def Entry.poisoned (e : Entry) : Entry :=
  { e with state := .discarding, cause := recordCause e.cause .poison, gathered := [], beatsTaken := e.beatsTaken + 1 }

/-- A complete entry in WRITING, its n payload writes issued (R24). The requests hold the gathered words from here on. -/
def Entry.written (e : Entry) (lastBytes n : Nat) : Entry :=
  { e with state := .writing, lastBytes := lastBytes, writesOutstanding := n, gathered := [] }

/-- Hand a beat to the Queue Engine for the entry e (R23, R24, R25, R40). -/
def State.handBeat (s : State) (e : Entry) (b : Beat) : State :=
  match e.state with
  | .filling =>
    if b.poison then s.settleEntry e.poisoned
    else
      let e' := e.gather b
      if e'.beatsTaken = e'.words.val then
        let writes := payloadWrites (s.queue e.queue).config e'
        (s.setEntry (e'.written (laneCount b.lanes) writes.length)).present writes
      else s.setEntry e'
  | .discarding => s.settleEntry { e with beatsTaken := e.beatsTaken + 1 }
  | _ => s

/-! ### Payload write completions -/

/-- A payload write of an entry in WRITING has completed, and e is the entry with its count lowered and its cause recorded.
At 0 the DATA header write is issued, or the entry moves to DISCARDING and is resolved (R27, R28, R30). -/
def State.afterPayload (s : State) (e : Entry) : State :=
  if e.writesOutstanding = 0 then
    match e.cause with
    | none =>
      let e' := { e with state := .sealing }
      (s.setEntry e').present [headerWrite (s.queue e.queue).config e']
    | some _ => s.settleEntry { e with state := .discarding }
  else s.setEntry e

/-- A payload write of the entry e completes (R27, R28, R41). -/
def State.payloadCompletes (s : State) (e : Entry) (status : MemStatus) : State :=
  let lowered := { e with writesOutstanding := e.writesOutstanding - 1 }
  match e.state, status with
  | .writing, .ok => s.afterPayload lowered
  | .writing, .error => s.afterPayload { lowered with cause := recordCause e.cause .payloadError }
  | .discarding, _ => s.settleEntry lowered
  | _, _ => s

/-! ### Header write completions -/

/-- The HEADER-WRITE log entry of an entry: requester and tag where a DATA producer is answered (R48). -/
def Entry.headerFailLog (e : Entry) : LogEntry where
  reason := .headerWrite
  origin := if e.kind = .data then some (e.requester, e.tag) else none
  queue := some e.queue
  sequence := some e.sequence

/-- Answer a DATA producer OK; a FILLER has no producer to answer (R31, R32). -/
def State.answerStored (s : State) (e : Entry) : State :=
  match e.kind with
  | .data => s.answerOk e.requester e.tag []
  | .filler => s

/-- Log a header write failure, and answer a DATA producer DECLINE (HEADER-WRITE) by that one entry (R48, R49). -/
def State.declineHeader (s : State) (e : Entry) : State :=
  match e.kind with
  | .data => s.decline e.requester e.tag e.headerFailLog
  | .filler => s.appendLog e.headerFailLog

/-- The header write of an entry in SEALING completes OK (R31, R32). -/
def State.headerOk (s : State) (e : Entry) : State :=
  if (s.queue e.queue).state = .stopping then
    (((s.answerStored e).freeEntry e).entryFreed).testStop e.queue
  else ((s.setEntry { e with state := .closed }).answerStored e).commitAttempt e.queue

/-- The header write of an entry in SEALING completes ERROR (R48, R49). -/
def State.headerError (s : State) (e : Entry) : State :=
  if (s.queue e.queue).state = .stopping then
    (((s.declineHeader e).freeEntry e).entryFreed).testStop e.queue
  else ((s.setEntry { e with state := .failed }).declineHeader e).faultTrigger e.queue .headerWrite

/-- The header write of the entry e completes. -/
def State.headerCompletes (s : State) (e : Entry) (status : MemStatus) : State :=
  match e.state, status with
  | .sealing, .ok => s.headerOk e
  | .sealing, .error => s.headerError e
  | _, _ => s

end Sys2Proof.Machine
end

