-- ==== Sys2Proof/Machine/HoldUnit.lean ====
section
/-! DEFINITION. WAITER_EXPIRY (R81), and the passing of hold time on an empty command queue (log entry 1). -/

namespace Sys2Proof.Machine

/-- Is w the waiter of this requester and tag? -/
def Waiter.named (w : Waiter) (r : Requester) (t : Tag) : Bool := decide (w.requester = r ∧ w.tag = t)

/-- A held request: its queue, its list and its waiter. -/
structure HeldRequest where
  queue  : QueueId
  side   : Side
  waiter : Waiter
  deriving DecidableEq, Repr

/-- The waiters of queue q, the Push Waiter list first. -/
def State.heldIn (s : State) (q : QueueId) : List HeldRequest :=
  (s.queue q).pushWaiters.map (fun w => ⟨q, .push, w⟩) ++ (s.queue q).popWaiters.map (fun w => ⟨q, .pop, w⟩)

/-- The waiters of all lists. -/
def State.heldRequests (s : State) : List HeldRequest := (List.finRange 16).flatMap s.heldIn

/-- The held request of a requester and tag. -/
def State.heldRequest (s : State) (r : Requester) (t : Tag) : Option HeldRequest :=
  s.heldRequests.find? (fun h => h.waiter.named r t)

/-- Is the held request the head of its list? -/
def State.isHead (s : State) (h : HeldRequest) : Bool :=
  match (s.queue h.queue).waiters h.side with
  | [] => false
  | w :: _ => decide (w = h.waiter)

/-- The waiter leaves its list; the clock has reached its deadline (R81; log entry 2). -/
def State.leave (s : State) (h : HeldRequest) : State :=
  (s.setWaiters h.queue h.side
    (((s.queue h.queue).waiters h.side).filter (fun w => !w.named h.waiter.requester h.waiter.tag))).withHold
    { s.hold with clock := max s.hold.clock h.waiter.deadline }

/-- The expiry of a held request (R81). -/
def State.expireHeld (s : State) (h : HeldRequest) : State :=
  let s' := (s.leave h).retry h.queue h.waiter.requester h.waiter.tag .timeout
  if s.isHead h then s'.reexamine h.queue h.side else s'

/-- No held request has an earlier deadline: the expiry of h is the next in time, or one of those due together (R81). -/
def State.firstDue (s : State) (h : HeldRequest) : Bool :=
  s.heldRequests.all (fun k => decide (h.waiter.deadline ≤ k.waiter.deadline))

/-- The expiry of the held request of a requester and tag: none when it is not held any more (R82), and none while another
held request has an earlier deadline, since that one expires first, less than one microsecond after it (R81; log
entry 2). -/
def State.expire (s : State) (r : Requester) (t : Tag) : State :=
  match s.heldRequest r t with
  | none => s
  | some h => if s.firstDue h then (s.expireHeld h).finish else s

/-- WAITER_EXPIRY (R81). -/
def execWaiterExpiry (r : Requester) (t : Tag) (s : State) : Host.Outcome State Fault Refusal :=
  .next (s.clearOutputs.expire r t)

/-- The held requests whose deadline is reached and who come first in time. -/
def State.due (s : State) : List HeldRequest :=
  s.heldRequests.filter (fun h => decide (h.waiter.deadline ≤ s.hold.clock) && s.firstDue h)

/-- One microsecond passes. -/
def State.tick (s : State) : State := s.withHold { s.hold with clock := s.hold.clock + 1 }

/-- The one of several due requests whose expiry is taken first: a free value (R81). -/
def State.chooseDue (s : State) (h : HeldRequest) (hs : List HeldRequest) : HeldRequest :=
  ((h :: hs)[Config.dueChoice s.freeUses % (hs.length + 1)]?).getD h

/-- What the block does when no command waits: a due expiry is taken, or else one microsecond of hold time passes (R81; log
entry 1). A request that waits at the memory arbiter goes on waiting: a passage is made where MEMORY_PASSAGE stands in the
queue (R145; log entry 30). -/
def idle (s : State) : Host.Outcome State Fault Refusal :=
  match s.due with
  | [] => .next s.clearOutputs.tick
  | [h] => execWaiterExpiry h.waiter.requester h.waiter.tag s
  | h :: hs =>
    let c := s.chooseDue h hs
    execWaiterExpiry c.waiter.requester c.waiter.tag s.useFree

end Sys2Proof.Machine
end

