-- ==== Sys2Proof/Machine/MemoryPort.lean ====
section
/-! DEFINITION. The commands of the memory-side port: MEMORY_PASSAGE (R145) and the completions (R143), with the course of pop
reads (R60 to R66), pass-through accesses (R140, R141) and notice writes (R111). -/

namespace Sys2Proof.Machine

/-! ### Passage -/

/-- The source of a request, by its place in the arbiter's fixed order (R145). -/
def Owner.source : Owner → Nat
  | .header _ _ => 1
  | .payload _ _ => 2
  | .popRead _ _ _ => 3
  | .passThrough _ _ => 4
  | .notice _ => 5

/-- The request the arbiter passes next: of the first source that has one, the earliest presented (R145). -/
def MemoryPort.nextWaiting (m : MemoryPort) : Option MemRequest :=
  [1, 2, 3, 4, 5].findSome? (fun k => m.waiting.find? (fun r => r.owner.source = k))

/-- Does an outstanding request hold number n (R143)? -/
def MemoryPort.holds (m : MemoryPort) (n : Nat) : Bool := m.passed.any (fun p => p.number = n)

/-- The number a passage gives when the Memory Port offers n: n if it is free, else the next free one after it, going round
(R143; log entry 6). -/
def MemoryPort.freeNumber (m : MemoryPort) (n : Nat) : Option Nat :=
  ((List.range Config.requestNumbers).map (fun k => (n + k) % Config.requestNumbers)).find? (fun k => !m.holds k)

/-- Pass a request to memory under a number (R144, R145). -/
def MemoryPort.pass (m : MemoryPort) (r : MemRequest) (n : Nat) : MemoryPort where
  waiting := m.waiting.erase r
  passed := m.passed ++ [⟨n, r⟩]
  handed := [⟨n, r⟩]

/-- A passage, when a request is waiting and the count is below 96 (R144, R145). -/
def State.passage (s : State) (n : Nat) : State :=
  if s.outstanding < Config.requestNumbers then
    match s.mem.nextWaiting, s.mem.freeNumber n with
    | some r, some k => s.withMem (s.mem.pass r k)
    | _, _ => s
  else s

/-! ### Pop reads -/

/-- The words of a read completion, as many as its request asked for. A word that is not there is a free value (log
entry 5). -/
def completionWords (uses words : Nat) (data : List Word) : List Word :=
  (List.range words).map (fun i => (data[i]?).getD (Config.missingWord uses i))

/-- A read completion has brought its data; a missing word takes a free value. -/
def State.noteMissing (s : State) (words : Nat) (data : List Word) : State :=
  if data.length < words then s.useFree else s

/-- Place the words of a read that completed OK from place `first` on (R60). -/
def PopEntry.fill (e : PopEntry) (first : Nat) (ws : List Word) : PopEntry :=
  { e with
    returned := e.returned.take first ++ ws.map some ++ e.returned.drop (first + ws.length)
    readsOutstanding := e.readsOutstanding - 1 }

/-- A read of the pop completed ERROR (R61). -/
def PopEntry.fail (e : PopEntry) : PopEntry :=
  { e with errorSeen := true, readsOutstanding := e.readsOutstanding - 1 }

/-- The pop entry of queue q that starts at p. -/
def Queue.popEntryAt (x : Queue) (p : Position) : Option PopEntry := x.popEntries.find? (fun e => e.start = p)

/-- Store a pop entry. -/
def State.setPopEntry (s : State) (q : QueueId) (e : PopEntry) : State :=
  s.modifyQueue q (fun x => { x with popEntries := x.popEntries.map (fun y => if y.start = e.start then e else y) })

/-- The release position after the entry e has left, `rest` remaining (R65). -/
def Queue.releaseAfter (x : Queue) (e : PopEntry) (rest : List PopEntry) : Position :=
  match x.popEntries with
  | [] => x.release
  | oldest :: _ =>
    if oldest.start = e.start then
      match rest with
      | [] => x.read
      | next :: _ => next.start
    else x.release

/-- The queue with the pop entry e removed and release moved (R65). -/
def Queue.removePop (x : Queue) (e : PopEntry) : Queue :=
  let rest := x.popEntries.filter (fun y => decide (y.start ≠ e.start))
  { x with popEntries := rest, release := x.releaseAfter e rest }

/-- Remove an answered pop entry, with the consequences of R66. -/
def State.removePop (s : State) (q : QueueId) (e : PopEntry) : State :=
  let s' := s.modifyQueue q (fun x => x.removePop e)
  let pushes := if (s'.queue q).release = (s.queue q).release then s' else s'.reexaminePush q
  ((pushes.reexaminePop q).testDrain q).testStop q

/-- The RING-READ log entry of a pop (R63). -/
def PopEntry.ringReadLog (e : PopEntry) (q : QueueId) : LogEntry where
  reason := .ringRead
  origin := some (e.requester, e.tag)
  queue := some q
  words := some (.count e.words.val)

/-- Answer the consumer of a pop whose reads have all completed, and remove its entry (R62, R63). A fault trigger comes
before the removal (log entry 10). -/
def State.answerPop (s : State) (q : QueueId) (e : PopEntry) : State :=
  if e.errorSeen then
    ((s.decline e.requester e.tag (e.ringReadLog q)).faultTrigger q .ringRead).removePop q e
  else (s.answerOk e.requester e.tag (e.returned.filterMap id)).removePop q e

/-- A read of the pop has completed, and e is the entry after it (R60, R61). -/
def State.afterRead (s : State) (q : QueueId) (e : PopEntry) : State :=
  if e.readsOutstanding = 0 then (s.setPopEntry q e).answerPop q e else s.setPopEntry q e

/-- A pop read completes (R60, R61). -/
def State.readCompletes (s : State) (q : QueueId) (e : PopEntry) (first words : Nat) (status : MemStatus)
    (data : List Word) : State :=
  match status with
  | .ok => (s.noteMissing words data).afterRead q (e.fill first (completionWords s.freeUses words data))
  | .error => s.afterRead q e.fail

/-! ### Pass-through -/

/-- A pass-through access completes (R140, R141, R142). -/
def State.passThroughCompletes (s : State) (x : Transaction) (words : Nat) (status : MemStatus) (data : List Word) :
    State :=
  match status with
  | .error => s.declineAddress x.request .memory
  | .ok =>
    match x.request.direction with
    | .write => s.answerOk x.request.requester x.request.tag []
    | .read =>
      (s.noteMissing words data).answerOk x.request.requester x.request.tag
        (completionWords s.freeUses words data)

/-! ### Notice writes -/

/-- A notice write of queue q completes (R111). -/
def State.noticeCompletes (s : State) (q : QueueId) (r : NoticeRecord) (status : MemStatus) : State :=
  let s' := s.modifyQueue q (fun x => { x with notices := x.notices.erase r })
  match status with
  | .ok => s'.noticeCheck q
  | .error =>
    (s'.appendLog { reason := .noticeFault, queue := some q, address := some r.address }).noticeCheck q

/-- The record of a notice write (R108, R110): the address and value it carries. -/
def MemRequest.noticeRecord (r : MemRequest) : NoticeRecord := ⟨r.address, ((r.beats.map Beat.data).head?).getD 0⟩

/-! ### Routing -/

/-- Hand a completion to the block that presented the request (R143). -/
def State.route (s : State) (r : MemRequest) (status : MemStatus) (data : List Word) : State :=
  match r.owner with
  | .header q p =>
    match s.entryAt q p with
    | none => s
    | some e => s.headerCompletes e status
  | .payload q p =>
    match s.entryAt q p with
    | none => s
    | some e => s.payloadCompletes e status
  | .popRead q p first =>
    match (s.queue q).popEntryAt p with
    | none => s
    | some e => s.readCompletes q e first r.words status data
  | .passThrough k t =>
    match s.transaction k t with
    | none => s
    | some x => s.passThroughCompletes x r.words status data
  | .notice q => s.noticeCompletes q r.noticeRecord status

/-- The outstanding request that holds number n. -/
def MemoryPort.held (m : MemoryPort) (n : Nat) : Option Passed := m.passed.find? (fun p => p.number = n)

/-- The number n is free again (R143, R144). -/
def State.releaseNumber (s : State) (n : Nat) : State :=
  s.withMem { s.mem with passed := s.mem.passed.filter (fun p => decide (p.number ≠ n)) }

/-- A completion returns: it is routed by its number, and discarded when no outstanding request holds it (R143, R148). -/
def State.complete (s : State) (n : Nat) (status : MemStatus) (data : List Word) : State :=
  match s.mem.held n with
  | none => s
  | some p => ((s.releaseNumber n).route p.request status data).finish

/-! ### The commands -/

/-- MEMORY_PASSAGE (R145). -/
def execMemoryPassage (number : Nat) (s : State) : Host.Outcome State Fault Refusal :=
  .next (s.clearOutputs.passage number)

/-- PAYLOAD_WRITE_OK (R27). -/
def execPayloadWriteOk (number : Nat) (s : State) : Host.Outcome State Fault Refusal :=
  .next (s.clearOutputs.complete number .ok [])

/-- PAYLOAD_WRITE_ERROR (R28). -/
def execPayloadWriteError (number : Nat) (s : State) : Host.Outcome State Fault Refusal :=
  .next (s.clearOutputs.complete number .error [])

/-- HEADER_WRITE_OK (R31). -/
def execHeaderWriteOk (number : Nat) (s : State) : Host.Outcome State Fault Refusal :=
  .next (s.clearOutputs.complete number .ok [])

/-- HEADER_WRITE_ERROR (R48). -/
def execHeaderWriteError (number : Nat) (s : State) : Host.Outcome State Fault Refusal :=
  .next (s.clearOutputs.complete number .error [])

/-- POP_READ_OK (R60). -/
def execPopReadOk (number : Nat) (data : List Word) (s : State) : Host.Outcome State Fault Refusal :=
  .next (s.clearOutputs.complete number .ok data)

/-- POP_READ_ERROR (R61). -/
def execPopReadError (number : Nat) (s : State) : Host.Outcome State Fault Refusal :=
  .next (s.clearOutputs.complete number .error [])

/-- PASS_THROUGH_READ_COMPLETION (R140). -/
def execPassThroughReadCompletion (number : Nat) (status : MemStatus) (data : List Word) (s : State) :
    Host.Outcome State Fault Refusal :=
  .next (s.clearOutputs.complete number status data)

/-- PASS_THROUGH_WRITE_COMPLETION (R141). -/
def execPassThroughWriteCompletion (number : Nat) (status : MemStatus) (s : State) :
    Host.Outcome State Fault Refusal :=
  .next (s.clearOutputs.complete number status [])

/-- NOTICE_WRITE_COMPLETION (R111). -/
def execNoticeWriteCompletion (number : Nat) (status : MemStatus) (s : State) : Host.Outcome State Fault Refusal :=
  .next (s.clearOutputs.complete number status [])

/-- DISCARDED_COMPLETION (R143): a number that no outstanding request holds. A number that has been given to a new request
is that request's completion (R148). -/
def execDiscardedCompletion (number : Nat) (status : MemStatus) (data : List Word) (s : State) :
    Host.Outcome State Fault Refusal :=
  .next (s.clearOutputs.complete number status data)

end Sys2Proof.Machine
end

