-- ==== Sys2Proof/Machine/Link.lean ====
section
/-! DEFINITION. The Management Link Controller: REQUEST_FRAME (R153, R154), FETCH (R156), and the execution of the pending
request (R155). -/

namespace Sys2Proof.Machine

/-! ### The end of a request period -/

/-- So many clocks of 0x00 on data out (R151). -/
def Link.silent (l : Link) (clocks : Nat) : Link := { l with dataOut := List.replicate clocks false }

/-- The bytes of a request period are in the request buffer: at most 64 stored, all counted (R151, R152). -/
def Link.receive (l : Link) (bytes : List Byte) : Link :=
  { l with buffer := bytes.take Config.bufferBytes, received := bytes.length }

/-- The request buffer is emptied (R154). -/
def Link.emptied (l : Link) : Link := { l with buffer := [], received := 0 }

/-- The pending request, if any, is superseded (R154). -/
def Link.supersede (l : Link) : Link :=
  { l with request := l.request.map (fun p => { p with superseded := true }) }

/-- A request answered at the end of its period: the answer replaces what the slot held (R154). -/
def Link.answered (l : Link) (r : Result) : Link := { l with slot := .held r [] }

/-- Cases 3 to 6 of R154: a well-formed frame, with no request pending. -/
def Link.accept (l : Link) (code : Byte) (payload : List Byte) : Link :=
  match Command.ofCode code with
  | none => l.answered .unknownCommand
  | some c =>
    if l.softReset = true ∧ c ≠ .readStatus then l.answered .busy
    else if payload.length ≠ c.payloadLength then l.answered .badValue
    else { l with request := some ⟨c, payload, false⟩, slot := .awaiting }

/-- The decision of R154 on the frame in the request buffer. -/
def Link.judge (l : Link) : Link :=
  if frameWellFormed l.buffer l.received then
    if l.request.isSome then l.supersede.answered .busy
    else l.accept (l.buffer.headD 0) (framePayload l.buffer)
  else l.supersede.answered .badFrame

/-! ### Fetching -/

/-- The answer to a fetch (R156). -/
def Link.fetchFrame (l : Link) : List Byte :=
  match l.slot with
  | .none => responseFrame .noResponse []
  | .awaiting => responseFrame .notReady []
  | .held r payload => responseFrame r payload

/-- The slot after a fetch (R156): a held response is consumed. -/
def ResponseSlot.fetched : ResponseSlot → ResponseSlot
  | .none => .none
  | .awaiting => .awaiting
  | .held _ _ => .none

/-- The bits of a response frame that so many clocks bring, 0x00 following it: each byte most significant bit first (R151,
R156). -/
def frameBits (frame : List Byte) (clocks : Nat) : List Bool :=
  (frame.flatMap byteBits ++ List.replicate clocks false).take clocks

/-- A fetch period with so many clocks after the fetch code: data out carries 0x00, then the response frame, then 0x00 again
(R151, R156). -/
def Link.fetch (l : Link) (clocks : Nat) : Link :=
  { l with
    dataOut := List.replicate 8 false ++ frameBits l.fetchFrame clocks
    slot := l.slot.fetched }

/-- The end of a period that was in progress at a power-on reset: it has no effect (R152; log entry 14). -/
def Link.endIgnored (l : Link) (clocks : Nat) : Link := { l.silent clocks with ignorePeriod := false }

/-- A select period that clocked these bits on data in (R151): empty, a fetch, or a request, by its whole bytes. -/
def Link.period (l : Link) (bits : List Bool) : Link :=
  if l.ignorePeriod then l.endIgnored bits.length
  else
    match wholeBytes bits with
    | [] => l.silent bits.length
    | b :: rest =>
      if b = Config.fetchCode then l.fetch (bits.length - 8)
      else ((l.silent bits.length).receive (b :: rest)).judge.emptied

/-- A fetch period (R156). -/
def Link.fetchPeriod (l : Link) (clocks : Nat) : Link :=
  if l.ignorePeriod then l.endIgnored (8 + clocks) else l.fetch clocks

/-- REQUEST_FRAME (R154). -/
def execRequestFrame (bits : List Bool) (s : State) : Host.Outcome State Fault Refusal :=
  let s' := s.clearOutputs
  .next (s'.withLink (s'.link.period bits))

/-- FETCH (R156). -/
def execFetch (clocks : Nat) (s : State) : Host.Outcome State Fault Refusal :=
  let s' := s.clearOutputs
  .next (s'.withLink (s'.link.fetchPeriod clocks))

/-! ### Execution of the pending request -/

/-- What executing a command leaves: the state, the result and the response payload. -/
structure Executed where
  state   : State
  result  : Result
  payload : List Byte := []

/-- The pending request has executed: it becomes absent, and its result becomes the held response unless a newer request has
superseded it (R155). -/
def Link.respond (l : Link) (p : PendingRequest) (r : Result) (payload : List Byte) : Link :=
  { l with
    request := none
    slot := if p.superseded then l.slot else .held r payload }

/-- Execute the pending request p by f. During a soft reset every command but READ-STATUS is answered BUSY and has no effect
(R90, R154, R168). -/
def State.executeWith (s : State) (p : PendingRequest) (f : State → List Byte → Executed) : State :=
  if s.link.softReset = true ∧ p.command ≠ .readStatus then s.withLink (s.link.respond p .busy [])
  else
    let x := f s p.payload
    x.state.withLink (x.state.link.respond p x.result x.payload)

/-- The pending request executes if it is the command c (R155); otherwise there is nothing of this row to execute (log entry
3). -/
def State.execute (s : State) (c : Command) (f : State → List Byte → Executed) : State :=
  match s.link.request with
  | none => s
  | some p => if p.command = c then s.executeWith p f else s

end Sys2Proof.Machine
end

