-- ==== Sys2Proof/Machine/QueueCommands.lean ====
section
/-! DEFINITION. READ-QUEUE (R162), CONFIGURE-QUEUE (R10, R11, R163), QUEUE-COMMAND (R164) and the six queue actions (R91 to
R103). -/

namespace Sys2Proof.Machine

/-- READ-QUEUE executes (R162). -/
def readQueueEffect (s : State) (payload : List Byte) : Executed :=
  match indexOf 16 (field payload 0 1) with
  | none => ⟨s, .badIndex, []⟩
  | some q => ⟨s, .done, s.queueBytes q⟩

/-- CONFIGURE-QUEUE executes (R163). -/
def configureQueueEffect (s : State) (payload : List Byte) : Executed :=
  match indexOf 16 (field payload 0 1) with
  | none => ⟨s, .badIndex, []⟩
  | some q =>
    if (s.queue q).state ≠ .stopped then ⟨s, .refusedState, []⟩
    else
      match QueueConfig.ofBytes (payload.drop 1) with
      | none => ⟨s, .badValue, []⟩
      | some c =>
        if s.configOk q c then ⟨s.modifyQueue q (fun x => { x with config := c }), .done, []⟩
        else ⟨s, .badValue, []⟩

/-! ### START -/

/-- The context of a queue that START moves to RUNNING (R91). -/
def Queue.started (x : Queue) : Queue :=
  { x with
    state := .running
    release := 0
    read := 0
    commit := 0
    reserve := 0
    nextSequence := 0
    noticeArmed := decide (x.config.threshold ≠ 0) }

/-- START (R91). -/
def State.actStart (s : State) (q : QueueId) : Executed :=
  match (s.queue q).state with
  | .stopped =>
    if (s.queue q).config.ringSize = 0 then ⟨s, .badConfig, []⟩ else ⟨s.modifyQueue q Queue.started, .done, []⟩
  | _ => ⟨s, .refusedState, []⟩

/-! ### DRAIN -/

/-- A RUNNING queue moves to DRAINING, in the order of R92. -/
def State.drainQueue (s : State) (q : QueueId) : State :=
  let released := (s.modifyQueue q (fun x => { x with state := .draining })).releaseList q .push .state
  (if released.ownsNone q then released.reexaminePop q else released).testDrain q

/-- DRAIN (R92). -/
def State.actDrain (s : State) (q : QueueId) : Executed :=
  match (s.queue q).state with
  | .running => ⟨s.drainQueue q, .done, []⟩
  | .draining => ⟨s, .done, []⟩
  | _ => ⟨s, .refusedState, []⟩

/-! ### STOP -/

/-- Is a waiting request a payload write of an entry of queue q (R146)? -/
def MemRequest.payloadOf (r : MemRequest) (q : QueueId) : Bool :=
  match r.owner with
  | .payload k _ => decide (k = q)
  | _ => false

/-- The payload writes of an entry that still wait at the arbiter (R42). -/
def MemoryPort.payloadWaiting (m : MemoryPort) (e : Entry) : Nat :=
  m.waiting.countP (fun r => decide (r.owner = .payload e.queue e.start))

/-- What STOP makes of an entry that it does not free, with so many of its payload writes withdrawn (R42). -/
def Entry.stopped (e : Entry) (withdrawn : Nat) : Entry :=
  match e.state with
  | .filling => { e with state := .discarding, cause := recordCause e.cause .stop }
  | .writing =>
    { e with
      state := .discarding
      cause := recordCause e.cause .stop
      writesOutstanding := e.writesOutstanding - withdrawn }
  | _ => e

/-- STOP frees entries in CLOSED and FAILED (R42). -/
def Entry.stopFrees (e : Entry) : Bool := decide (e.state = .closed) || decide (e.state = .failed)

/-- The Reservation Table after STOP has acted on each entry of queue q (R42), before any is resolved. -/
def State.stoppedEntries (s : State) (q : QueueId) : List Entry :=
  (s.reservations.filter (fun e => !(decide (e.queue = q) && e.stopFrees))).map (fun e =>
    if e.queue = q then e.stopped (s.mem.payloadWaiting e) else e)

/-- Act on the entries of queue q: payload writes withdrawn, entries moved or freed (R42, R146). -/
def State.stopEntries (s : State) (q : QueueId) : State :=
  (s.withReservations (s.stoppedEntries q)).withMem
    { s.mem with waiting := s.mem.waiting.filter (fun r => !r.payloadOf q) }

/-- Resolve by case 1 of R43 an entry that the STOP left ready: its producer is answered and it is freed. -/
def State.resolveStopped (s : State) (e : Entry) : State :=
  (s.decline e.requester e.tag e.abandonedLog).freeEntry e

/-- Resolve the entries of queue q that are ready, in order of start position (R95, R174). -/
def State.resolveReady (s : State) (q : QueueId) : State :=
  ((s.entriesOf q).filter Entry.ready).foldl State.resolveStopped s

/-- Run the arbiter, once, if the event has freed an entry between `s` and `s'` (R36; log entry 11). -/
def State.arbitrateIfFreed (s s' : State) : State :=
  if s'.reservations.length < s.reservations.length then s'.entryFreed else s'

/-- The context of a queue that moves to STOPPING (R95, step 1). -/
def Queue.stopping (x : Queue) : Queue := { x with state := .stopping, faultReason := none }

/-- Steps 1 to 3 of R95 for a queue in RUNNING, DRAINING or FAULTED, before the arbiter's run: the queue is STOPPING, its
waiters are released, its entries acted on, and those that are ready resolved. -/
def State.stopActs (s : State) (q : QueueId) : State :=
  (((s.modifyQueue q Queue.stopping).releaseAll q .state).stopEntries q).resolveReady q

/-- STOP of a queue in RUNNING, DRAINING or FAULTED, in the order of R95. -/
def State.stopQueue (s : State) (q : QueueId) : State := (s.arbitrateIfFreed (s.stopActs q)).testStop q

/-- The answer to a STOP that moved its queue: DONE when it is STOPPED at once, ACCEPTED otherwise (R95). -/
def State.stopResult (s : State) (q : QueueId) : Result :=
  if (s.queue q).state = .stopped then .done else .accepted

/-- STOP (R95). -/
def State.actStop (s : State) (q : QueueId) : Executed :=
  match (s.queue q).state with
  | .stopped => ⟨s, .done, []⟩
  | .stopping => ⟨s, .accepted, []⟩
  | _ =>
    let s' := s.stopQueue q
    ⟨s', s'.stopResult q, []⟩

/-! ### FLUSH -/

/-- The context of a flushed queue: read becomes commit, the notice is re-armed, and release follows read when no pop entry
is outstanding (R67, R102, R113). -/
def Queue.flushed (x : Queue) : Queue :=
  { x with
    read := x.commit
    release := if x.popEntries.isEmpty then x.commit else x.release
    noticeArmed := x.noticeArmed || decide (x.config.threshold ≠ 0) }

/-- FLUSH of a queue in RUNNING, DRAINING or FAULTED (R67, R102). -/
def State.flushQueue (s : State) (q : QueueId) : State :=
  let flushed := s.modifyQueue q Queue.flushed
  let pushes := if (s.queue q).popEntries.isEmpty then flushed.reexaminePush q else flushed
  pushes.lastEntryGone q

/-- FLUSH (R102). -/
def State.actFlush (s : State) (q : QueueId) : Executed :=
  match (s.queue q).state with
  | .stopped => ⟨s, .refusedState, []⟩
  | .stopping => ⟨s, .refusedState, []⟩
  | _ => ⟨s.flushQueue q, .done, []⟩

/-! ### CLEAR-FAULT -/

/-- The state a resume state names (R101). -/
def ResumeState.toState : ResumeState → QueueState
  | .running => .running
  | .draining => .draining

/-- The context of a queue whose fault is cleared (R101, step 1). -/
def Queue.cleared (x : Queue) : Queue := { x with state := x.resume.toState, faultReason := none }

/-- Re-issue every FAILED entry of queue q as a FILLER, in order of start position (R51, R145). -/
def State.reissueFailed (s : State) (q : QueueId) : State :=
  ((s.entriesOf q).filter (fun e => decide (e.state = .failed))).foldl State.issueFiller s

/-- CLEAR-FAULT of a FAULTED queue, in the order of R101. -/
def State.clearFaultQueue (s : State) (q : QueueId) : State :=
  ((((s.modifyQueue q Queue.cleared).reissueFailed q).commitAttempt q).noticeCheck q).testDrain q

/-- CLEAR-FAULT (R101). -/
def State.actClearFault (s : State) (q : QueueId) : Executed :=
  match (s.queue q).state with
  | .faulted => ⟨s.clearFaultQueue q, .done, []⟩
  | _ => ⟨s, .refusedState, []⟩

/-! ### ARM-NOTICE -/

/-- ARM-NOTICE (R103). -/
def State.actArmNotice (s : State) (q : QueueId) : Executed :=
  match (s.queue q).state with
  | .stopped => ⟨s, .refusedState, []⟩
  | _ => ⟨(s.modifyQueue q (fun x => { x with noticeArmed := true })).noticeCheck q, .done, []⟩

/-! ### QUEUE-COMMAND -/

/-- An action executes on queue q as one event (R90). -/
def State.act (s : State) (q : QueueId) : QueueAction → Executed
  | .start => s.actStart q
  | .drain => s.actDrain q
  | .stop => s.actStop q
  | .flush => s.actFlush q
  | .clearFault => s.actClearFault q
  | .armNotice => s.actArmNotice q

/-- QUEUE-COMMAND executes (R164). -/
def queueCommandEffect (s : State) (payload : List Byte) : Executed :=
  match indexOf 16 (field payload 0 1) with
  | none => ⟨s, .badIndex, []⟩
  | some q =>
    match QueueAction.ofCode (field payload 1 1) with
    | none => ⟨s, .badValue, []⟩
    | some a => s.act q a

/-- Does a QUEUE-COMMAND payload carry this action for a valid queue (R164)? -/
def carriesAction (a : QueueAction) (payload : List Byte) : Bool :=
  decide (field payload 0 1 < 16) && decide (QueueAction.ofCode (field payload 1 1) = some a)

/-- The pending QUEUE-COMMAND executes if it carries the action a for a valid queue (log entry 3). -/
def State.executeAction (s : State) (a : QueueAction) : State :=
  match s.link.request with
  | none => s
  | some p => if carriesAction a p.payload then s.execute .queueCommand queueCommandEffect else s

/-! ### The commands -/

/-- READ_QUEUE (R162). -/
def execReadQueue (s : State) : Host.Outcome State Fault Refusal :=
  .next (s.clearOutputs.execute .readQueue readQueueEffect)

/-- CONFIGURE_QUEUE (R163). -/
def execConfigureQueue (s : State) : Host.Outcome State Fault Refusal :=
  .next (s.clearOutputs.execute .configureQueue configureQueueEffect)

/-- START (R91). -/
def execStart (s : State) : Host.Outcome State Fault Refusal := .next (s.clearOutputs.executeAction .start).finish

/-- DRAIN (R92). -/
def execDrain (s : State) : Host.Outcome State Fault Refusal := .next (s.clearOutputs.executeAction .drain).finish

/-- STOP (R95). -/
def execStop (s : State) : Host.Outcome State Fault Refusal := .next (s.clearOutputs.executeAction .stop).finish

/-- FLUSH (R102). -/
def execFlush (s : State) : Host.Outcome State Fault Refusal := .next (s.clearOutputs.executeAction .flush).finish

/-- CLEAR_FAULT (R101). -/
def execClearFault (s : State) : Host.Outcome State Fault Refusal :=
  .next (s.clearOutputs.executeAction .clearFault).finish

/-- ARM_NOTICE (R103). -/
def execArmNotice (s : State) : Host.Outcome State Fault Refusal :=
  .next (s.clearOutputs.executeAction .armNotice).finish

/-- QUEUE_COMMAND (R164). -/
def execQueueCommand (s : State) : Host.Outcome State Fault Refusal :=
  .next (s.clearOutputs.execute .queueCommand queueCommandEffect).finish

end Sys2Proof.Machine
end

