-- ==== Sys2Proof/Machine/Resets.lean ====
section
/-! DEFINITION. SOFT_RESET (R106, R167 to R169) and POWER_ON_RESET (R107, R148, R170). -/

namespace Sys2Proof.Machine

/-- The STOP a soft reset gives to queue q, up to the arbiter's run; no response is held for it (R106). A queue that is STOPPED
or STOPPING is left as it is. -/
def State.softResetStop (s : State) (q : QueueId) : State :=
  match (s.queue q).state with
  | .stopped => s
  | .stopping => s
  | _ => (s.stopActs q).testStop q

/-- The STOPs of a soft reset, queue by queue in ascending queue number (R106, R174). -/
def State.softResetStops (s : State) : State := (List.finRange 16).foldl State.softResetStop s

/-- SOFT-RESET executes, in the order of R167: the flag, and with it the port's stop (R149), then the STOPs, queue by queue
in ascending queue number (R174). DEDUCED (log entry 28): the arbiter runs once, for all the entries the event frees (R36), when
every list has been released, so that each held request is answered DECLINE (STATE) (R149). The completion test follows in
`finish`. -/
def softResetEffect (s : State) (_ : List Byte) : Executed :=
  let s' := s.withLink { s.link with softReset := true }
  ⟨s'.arbitrateIfFreed s'.softResetStops, .accepted, []⟩

/-- SOFT_RESET (R167). -/
def execSoftReset (s : State) : Host.Outcome State Fault Refusal :=
  .next (s.clearOutputs.execute .softReset softResetEffect).finish

/-- Every block at its power-on values (R3, R19, R56, R87, R108, R116, R148, R152, R171). The command queue and the place of
the next free value are not the block's. -/
def State.powerOn (s : State) (periodInProgress : Bool) : State :=
  { State.reset with
    link := { Link.reset with ignorePeriod := periodInProgress }
    freeUses := s.freeUses
    pending := s.pending }

/-- POWER_ON_RESET (R107). -/
def execPowerOnReset (periodInProgress : Bool) (s : State) : Host.Outcome State Fault Refusal :=
  .next (s.powerOn periodInProgress)

end Sys2Proof.Machine
end

