-- ==== Sys2Proof/Machine/SystemPort.lean ====
section
/-! DEFINITION. The commands of the system-side port: TAKE_REQUEST (R135) and WRITE_BEAT (R137). -/

namespace Sys2Proof.Machine

/-- The interconnect presents a request: it joins the requests not yet taken, and the taking test runs (R135; log entry 29:
the requests that become presented in the event are tested in it too). -/
def State.presentRequest (s : State) (q : Request) : State :=
  (s.withSys { s.sys with arrivals := s.sys.arrivals ++ [q] }).takePresented

/-- Present the memory write of a pass-through write whose last beat is in (R141). -/
def State.passThroughWrite (s : State) (x : Transaction) (m : Addr) : State :=
  (s.setTransaction { x with gathered := [] }).present
    [⟨.passThrough x.request.requester x.request.tag, .write, m, x.gathered.length, x.gathered⟩]

/-- A beat of a pass-through write, already counted in x: it is stored, and the last one presents the write (R137, R141). -/
def State.gatherBeat (s : State) (x : Transaction) (b : Beat) : State :=
  let x' := { x with gathered := x.gathered ++ [b] }
  match x.decoded with
  | .access m => if x'.beatsIn then s.passThroughWrite x' m else s.setTransaction x'
  | _ => s.setTransaction x'

/-- A beat of a write in DROPPING, already counted in x: with the last one the response leaves (R137, R138). -/
def State.dropBeat (s : State) (x : Transaction) : State :=
  match x.answer with
  | some a => if x.beatsIn then s.sendResponse x a else s.setTransaction x
  | none => s.setTransaction x

/-- A beat of a granted push, already counted in x: it is handed to the Queue Engine (R137, R23). -/
def State.handOver (s : State) (x : Transaction) (b : Beat) : State :=
  match s.fillingEntry x.request.requester x.request.tag with
  | none => s.setTransaction x
  | some e => (s.setTransaction x).handBeat e b

/-- The next beat of the transaction x is offered (R137). -/
def State.takeBeat (s : State) (x : Transaction) (b : Beat) : State :=
  if x.received < x.request.beats.val then
    let x' := { x with received := x.received + 1 }
    match x.beatMode with
    | none => s
    | some .waiting => s
    | some .gathering => s.gatherBeat x' b
    | some .handing => s.handOver x' b
    | some .dropping => s.dropBeat x'
  else s

/-- A beat is offered for a requester and tag. A beat that no tracked write takes stays at the interconnect (R137, R148). -/
def State.offerBeat (s : State) (r : Requester) (t : Tag) (b : Beat) : State :=
  match s.transaction r t with
  | none => s
  | some x => s.takeBeat x b

/-- Present a request, and run the arbiter behind its decision where the arbiter's run was put off for it (R37). -/
def State.presentAndArbitrate (s : State) (q : Request) : State :=
  if s.arbiterDue then ((s.withArbiterDue false).presentRequest q).arbitrate else s.presentRequest q

/-- TAKE_REQUEST (R135). -/
def execTakeRequest (q : Request) (s : State) : Host.Outcome State Fault Refusal :=
  .next (s.clearOutputs.presentAndArbitrate q)

/-- WRITE_BEAT (R137). -/
def execWriteBeat (r : Requester) (t : Tag) (b : Beat) (s : State) : Host.Outcome State Fault Refusal :=
  .next (s.clearOutputs.offerBeat r t b).finish

end Sys2Proof.Machine
end

