-- ==== Sys2Proof/Machine/TableCommands.lean ====
section
/-! DEFINITION. READ-STATUS (R157), the table commands (R158 to R161) and the log commands (R165, R166). -/

namespace Sys2Proof.Machine

/-- READ-STATUS executes (R157). -/
def readStatusEffect (s : State) (_ : List Byte) : Executed := ⟨s, .done, s.statusBytes⟩

/-- READ-WINDOW executes (R158). -/
def readWindowEffect (s : State) (payload : List Byte) : Executed :=
  match indexOf 32 (field payload 0 1) with
  | none => ⟨s, .badIndex, []⟩
  | some i => ⟨s, .done, (s.windows[i]).bytes⟩

/-- WRITE-WINDOW executes (R117, R159). -/
def writeWindowEffect (s : State) (payload : List Byte) : Executed :=
  match indexOf 32 (field payload 0 1) with
  | none => ⟨s, .badIndex, []⟩
  | some i =>
    match Window.ofBytes (payload.drop 1) with
    | none => ⟨s, .badValue, []⟩
    | some w => ⟨s.withWindows (s.windows.set i.val w i.isLt), .done, []⟩

/-- READ-CLASS-MAP executes (R160). -/
def readClassMapEffect (s : State) (_ : List Byte) : Executed := ⟨s, .done, s.classMapBytes⟩

/-- WRITE-CLASS executes (R118, R161). -/
def writeClassEffect (s : State) (payload : List Byte) : Executed :=
  match indexOf 64 (field payload 0 1) with
  | none => ⟨s, .badIndex, []⟩
  | some r =>
    match indexOf 4 (field payload 1 1) with
    | none => ⟨s, .badValue, []⟩
    | some c => ⟨s.withClasses (s.classes.set r.val c r.isLt), .done, []⟩

/-- READ-LOG executes (R165, R176). -/
def readLogEffect (s : State) (_ : List Byte) : Executed :=
  match s.log.entries with
  | [] => ⟨s, .logEmpty, []⟩
  | e :: rest => ⟨s.withLog ⟨rest, 0⟩, .done, e.bytes s.log.lost⟩

/-- PEEK-LOG executes (R166, R176). -/
def peekLogEffect (s : State) (_ : List Byte) : Executed :=
  match s.log.entries with
  | [] => ⟨s, .logEmpty, []⟩
  | e :: _ => ⟨s, .done, e.bytes s.log.lost⟩

/-- READ_STATUS (R157). -/
def execReadStatus (s : State) : Host.Outcome State Fault Refusal :=
  .next (s.clearOutputs.execute .readStatus readStatusEffect)

/-- READ_WINDOW (R158). -/
def execReadWindow (s : State) : Host.Outcome State Fault Refusal :=
  .next (s.clearOutputs.execute .readWindow readWindowEffect)

/-- WRITE_WINDOW (R159). -/
def execWriteWindow (s : State) : Host.Outcome State Fault Refusal :=
  .next (s.clearOutputs.execute .writeWindow writeWindowEffect)

/-- READ_CLASS_MAP (R160). -/
def execReadClassMap (s : State) : Host.Outcome State Fault Refusal :=
  .next (s.clearOutputs.execute .readClassMap readClassMapEffect)

/-- WRITE_CLASS (R161). -/
def execWriteClass (s : State) : Host.Outcome State Fault Refusal :=
  .next (s.clearOutputs.execute .writeClass writeClassEffect)

/-- READ_LOG (R165). -/
def execReadLog (s : State) : Host.Outcome State Fault Refusal :=
  .next (s.clearOutputs.execute .readLog readLogEffect)

/-- PEEK_LOG (R166). -/
def execPeekLog (s : State) : Host.Outcome State Fault Refusal :=
  .next (s.clearOutputs.execute .peekLog peekLogEffect)

end Sys2Proof.Machine
end

