-- ==== Sys2Proof/Machine/Dispatch.lean ====
section
/-! DEFINITION. One arm per command of the table. -/

namespace Sys2Proof.Machine

def exec (i : Instr) (s : State) : Host.Outcome State Fault Refusal :=
  match i with
  | .takeRequest q => Sys2Proof.Machine.execTakeRequest q s
  | .writeBeat r t b => Sys2Proof.Machine.execWriteBeat r t b s
  | .memoryPassage n => Sys2Proof.Machine.execMemoryPassage n s
  | .payloadWriteOk n => Sys2Proof.Machine.execPayloadWriteOk n s
  | .payloadWriteError n => Sys2Proof.Machine.execPayloadWriteError n s
  | .headerWriteOk n => Sys2Proof.Machine.execHeaderWriteOk n s
  | .headerWriteError n => Sys2Proof.Machine.execHeaderWriteError n s
  | .popReadOk n d => Sys2Proof.Machine.execPopReadOk n d s
  | .popReadError n => Sys2Proof.Machine.execPopReadError n s
  | .passThroughReadCompletion n st d => Sys2Proof.Machine.execPassThroughReadCompletion n st d s
  | .passThroughWriteCompletion n st => Sys2Proof.Machine.execPassThroughWriteCompletion n st s
  | .noticeWriteCompletion n st => Sys2Proof.Machine.execNoticeWriteCompletion n st s
  | .discardedCompletion n st d => Sys2Proof.Machine.execDiscardedCompletion n st d s
  | .waiterExpiry r t => Sys2Proof.Machine.execWaiterExpiry r t s
  | .requestFrame bits => Sys2Proof.Machine.execRequestFrame bits s
  | .fetch k => Sys2Proof.Machine.execFetch k s
  | .readStatus => Sys2Proof.Machine.execReadStatus s
  | .readWindow => Sys2Proof.Machine.execReadWindow s
  | .writeWindow => Sys2Proof.Machine.execWriteWindow s
  | .readClassMap => Sys2Proof.Machine.execReadClassMap s
  | .writeClass => Sys2Proof.Machine.execWriteClass s
  | .readQueue => Sys2Proof.Machine.execReadQueue s
  | .configureQueue => Sys2Proof.Machine.execConfigureQueue s
  | .start => Sys2Proof.Machine.execStart s
  | .drain => Sys2Proof.Machine.execDrain s
  | .stop => Sys2Proof.Machine.execStop s
  | .flush => Sys2Proof.Machine.execFlush s
  | .clearFault => Sys2Proof.Machine.execClearFault s
  | .armNotice => Sys2Proof.Machine.execArmNotice s
  | .readLog => Sys2Proof.Machine.execReadLog s
  | .peekLog => Sys2Proof.Machine.execPeekLog s
  | .softReset => Sys2Proof.Machine.execSoftReset s
  | .powerOnReset p => Sys2Proof.Machine.execPowerOnReset p s
  | .queueCommand => Sys2Proof.Machine.execQueueCommand s

end Sys2Proof.Machine
end

