-- ==== Sys2Proof/Safety.lean ====
section
/-! DEFINITION. The terms the statements are written in: what stands before a command, what a command's plain outcomes leave,
and the laws that every step keeps. -/

namespace Sys2Proof.Machine

/-! ### The management link -/

/-- The request with this command and payload is pending, with this superseded mark, and no soft reset is in progress. -/
def State.asks (s : State) (c : Command) (payload : List Byte) (superseded : Bool) : Prop :=
  s.link.request = some ⟨c, payload, superseded⟩ ∧ s.link.softReset = false

/-- The pending request has executed with this result (R155): it is absent, and its result is held unless superseded. -/
def State.executed (s : State) (superseded : Bool) (r : Result) (payload : List Byte) : State :=
  s.withLink { s.link with
    request := none
    slot := if superseded then s.link.slot else .held r payload }

/-- The command row that carries out a queue action (R164). -/
def QueueAction.row : QueueAction → Instr
  | .start => .start
  | .drain => .drain
  | .stop => .stop
  | .flush => .flush
  | .clearFault => .clearFault
  | .armNotice => .armNotice

/-- The action code (R181). -/
def QueueAction.code : QueueAction → Byte
  | .start => 1
  | .drain => 2
  | .stop => 3
  | .flush => 4
  | .clearFault => 5
  | .armNotice => 6

/-- A pending QUEUE-COMMAND carries this action for queue q, and no soft reset is in progress. -/
def State.orders (s : State) (a : QueueAction) (q : QueueId) (superseded : Bool) : Prop :=
  s.asks .queueCommand [byteOf q.val, a.code] superseded

/-- The row that executes a pending request of this command. -/
def Command.row : Command → Instr
  | .readStatus => .readStatus
  | .readWindow => .readWindow
  | .writeWindow => .writeWindow
  | .readClassMap => .readClassMap
  | .writeClass => .writeClass
  | .readQueue => .readQueue
  | .configureQueue => .configureQueue
  | .queueCommand => .queueCommand
  | .readLog => .readLog
  | .peekLog => .peekLog
  | .softReset => .softReset

/-- The bits that bytes take on the link: each byte most significant bit first (R151). -/
def linkBits (bytes : List Byte) : List Bool :=
  bytes.flatMap (fun b => [b.getLsbD 7, b.getLsbD 6, b.getLsbD 5, b.getLsbD 4, b.getLsbD 3, b.getLsbD 2, b.getLsbD 1,
    b.getLsbD 0])

/-- A well-formed request frame (R153), judged from the bytes of the whole period. -/
def wellFormedFrame (bytes : List Byte) : Prop :=
  ∃ code n rest, bytes = code :: n :: rest ∧ n.toNat ≤ 60 ∧ bytes.length = 3 + n.toNat ∧
    (bytes.map BitVec.toNat).sum % 256 = 0

/-! ### The system-side port -/

/-- Nothing is stalled at the port, no arbiter run waits for the next decision (R37; log entry 8), and q will be taken as it
is presented (R135, R149). -/
def State.takes (s : State) (q : Request) : Prop :=
  s.sys.arrivals = [] ∧ s.arbiterDue = false ∧ s.link.softReset = false ∧ s.sys.tracker.length < 64 ∧
    ∀ x ∈ s.sys.tracker, ¬(x.request.requester = q.requester ∧ x.request.tag = q.tag)

/-- The form checks pass (R136). -/
def wellPlaced (q : Request) : Prop :=
  q.address.toNat % 8 = 0 ∧ q.address.toNat % 4096 + 8 * q.beats.val ≤ 4096

/-- A tracker entry is made for q (R134). -/
def State.tracked (s : State) (q : Request) (d : Decoded) (m : Option BeatMode) : State :=
  s.withSys { s.sys with tracker := s.sys.tracker ++ [⟨q, d, m, 0, [], none⟩] }

/-- A taken request answered in its taking event with a status other than OK: a read's response of all-ones data is sent, a
write keeps its answer and drops its beats (R137 to R139). -/
def State.turnedAway (s : State) (q : Request) (d : Decoded) (status : Status) (reason : Reason) : State :=
  match q.direction with
  | .read => s.withSys { s.sys with
      sent := s.sys.sent ++ [⟨q.requester, q.tag, status, List.replicate q.beats.val (BitVec.allOnes 64)⟩] }
  | .write => s.withSys { s.sys with
      tracker := s.sys.tracker ++ [⟨q, d, some .dropping, 0, [], some ⟨status, some reason, []⟩⟩] }

/-- The response of the transaction of this requester and tag leaves, and its tracker entry is freed (R138). -/
def State.respondedTo (s : State) (r : Requester) (t : Tag) (status : Status) (data : List Word) : State :=
  s.withSys { s.sys with
    tracker := s.sys.tracker.filter (fun y => !y.named r t)
    sent := s.sys.sent ++ [⟨r, t, status, data⟩] }

/-- The log entry of an answer that carries requester, tag and queue (R172). -/
def queueLogEntry (reason : Reason) (r : Requester) (t : Tag) (q : QueueId) : LogEntry :=
  { reason := reason, origin := some (r, t), queue := some q }

/-- The ABANDONED log entry of an entry with this cause (R43, R172). -/
def abandonedLogEntry (e : Entry) (cause : Option AbandonCause) : LogEntry :=
  { reason := .abandoned, origin := some (e.requester, e.tag), queue := some e.queue, sequence := some e.sequence,
    words := cause.map LogWords.cause }

/-- The HEADER-WRITE log entry of an entry: requester and tag for a DATA record alone (R48, R172). -/
def headerWriteLogEntry (e : Entry) : LogEntry :=
  { reason := .headerWrite
    origin := if e.kind = .data then some (e.requester, e.tag) else none
    queue := some e.queue
    sequence := some e.sequence }

/-- The log entry of an answer that carries requester, tag and address (R172). -/
def addressLogEntry (reason : Reason) (q : Request) : LogEntry :=
  { reason := reason, origin := some (q.requester, q.tag), address := some q.address }

/-- A RETRY's log entry, where the queue logs them (R173). -/
def State.loggedRetry (s : State) (q : QueueId) (r : Requester) (t : Tag) (reason : Reason) : State :=
  if (s.queue q).config.logRetries then s.appendLog (queueLogEntry reason r t q) else s

/-- The write of this requester and tag is not answered, and all its beats are in: an answer is sent as it is given (R138). -/
def State.writeReady (s : State) (r : Requester) (t : Tag) : Prop :=
  ∃ x, s.transaction r t = some x ∧ x.request.direction = .write ∧ x.received = x.request.beats.val ∧ x.answer = none

/-! ### The memory-side port -/

/-- The outstanding request with this number belongs to this owner. -/
def State.awaits (s : State) (n : Nat) (r : MemRequest) : Prop := s.mem.held n = some ⟨n, r⟩

/-- The number n is held no more (R143, R144). -/
def State.numberFreed (s : State) (n : Nat) : State :=
  s.withMem { s.mem with passed := s.mem.passed.filter (fun p => decide (p.number ≠ n)) }

/-- A write of one whole word (R30, R110). -/
def oneWordWrite (owner : Owner) (address : Addr) (w : Word) : MemRequest := ⟨owner, .write, address, 1, [⟨w, 0xFF, false⟩]⟩

/-- The notice write of queue q with the context x (R110). -/
def noticeWrite (q : QueueId) (x : Queue) : MemRequest :=
  oneWordWrite (.notice q) x.config.noticeAddress x.config.noticeValue

/-- The record of that notice write (R108). -/
def noticeRecordOf (x : Queue) : NoticeRecord := ⟨x.config.noticeAddress, x.config.noticeValue⟩

/-- The byte address of position p (R8). -/
def QueueConfig.positionAddress (c : QueueConfig) (p : Position) : Addr :=
  c.ringBase + BitVec.ofNat 40 (8 * (p.toNat % c.ringSize))

/-- The FILLER header write of an entry (R14, R47, R51). -/
def fillerWrite (c : QueueConfig) (e : Entry) : MemRequest :=
  oneWordWrite (.header e.queue e.start) (c.positionAddress e.start)
    (headerWord .filler e.queue e.requester e.sequence e.words 0)

/-- The DATA header write of an entry (R14, R30). -/
def dataHeaderWrite (c : QueueConfig) (e : Entry) : MemRequest :=
  oneWordWrite (.header e.queue e.start) (c.positionAddress e.start)
    (headerWord .data e.queue e.requester e.sequence e.words e.lastBytes)

/-- Present memory requests, in order (R145). -/
def State.presenting (s : State) (rs : List MemRequest) : State :=
  s.withMem { s.mem with waiting := s.mem.waiting ++ rs }

/-! ### The queues -/

/-- The context of a queue that has arrived at STOPPED, with no waiter (R97). -/
def Queue.atStopped (x : Queue) : Queue :=
  { x with
    state := .stopped
    release := 0
    read := 0
    commit := 0
    reserve := 0
    nextSequence := 0
    faultReason := none
    resume := .running
    noticeArmed := false
    pushWaiters := []
    popWaiters := [] }

/-- The entry of queue q at start position p has left the Reservation Table (R18). -/
def State.entryGone (s : State) (q : QueueId) (p : Position) : State :=
  s.withReservations (s.reservations.filter (fun y => !decide (y.queue = q ∧ y.start = p)))

/-- Queue q owns no reservation entry but one that starts at p. -/
def State.onlyEntryAt (s : State) (q : QueueId) (p : Position) : Prop := ∀ k ∈ s.entriesOf q, k.start = p

/-- Queue q is DRAINING, with no pop entry, visible 0, and no reservation entry but one that starts at p: without that entry it
meets the drain-completion condition (R89). -/
def State.endsWith (s : State) (q : QueueId) (p : Position) : Prop :=
  (s.queue q).state = .draining ∧ s.onlyEntryAt q p ∧ (s.queue q).popEntries = [] ∧ (s.queue q).visible = 0

/-- In t, the held request w of s has its answer: a read's has been sent with all-ones data, and a write whose beats are not
in keeps it in its tracker entry (R83, R138, R139). -/
def State.answersHeld (s t : State) (w : Waiter) (status : Status) (reason : Reason) : Prop :=
  ∀ x, s.transaction w.requester w.tag = some x → x.answer = none →
    (x.request.direction = .read →
      ⟨x.request.requester, x.request.tag, status, List.replicate x.request.beats.val (BitVec.allOnes 64)⟩ ∈ t.sys.sent) ∧
    (x.request.direction = .write → x.received < x.request.beats.val →
      ∃ y ∈ t.sys.tracker, y.request = x.request ∧ y.received = x.received ∧ y.answer = some ⟨status, some reason, []⟩)

/-- What follows a rewind of an entry of queue q (R45): `rewound` is the bridge with the entry gone and its space and number
given back, `last` says that q is DRAINING and owns no entry more, and t is what the event leaves. Where a push waits, the list
re-examination and the arbiter run in either order (R79). After the last entry of a DRAINING queue the Pop Waiter list is
re-examined, and the drain-completion condition tested. -/
def State.afterRewind (rewound t : State) (q : QueueId) (last : Prop) : Prop :=
  ∃ g : State, ((∀ k, (rewound.queue k).pushWaiters = []) → g = rewound) ∧
    ((∃ k, (rewound.queue k).pushWaiters ≠ []) →
      g = rewound.useFree.arbitrate.reexaminePush q ∨ g = (rewound.useFree.reexaminePush q).arbitrate) ∧
    (¬last → t = g) ∧
    (last →
      let v := g.reexaminePop q
      ((v.queue q).popEntries = [] ∧ (v.queue q).visible = 0 → t = v.setQueue q (v.queue q).atStopped) ∧
        (¬((v.queue q).popEntries = [] ∧ (v.queue q).visible = 0) → t = v))

/-- The next command is no TAKE_REQUEST, so that no new push reaches the moment of an arbiter's run (R37; log entry 8). -/
def State.noRequestNext (s : State) : Prop := ∀ a rest, s.pending ≠ .takeRequest a :: rest

/-- The log after these entries have been appended, in order (R174, R175). -/
def ExceptionLog.appendAll (l : ExceptionLog) (es : List LogEntry) : ExceptionLog := es.foldl ExceptionLog.append l

/-! ### STOP -/

/-- A queue that STOP moves (R95). -/
def State.stoppable (s : State) (q : QueueId) : Prop :=
  (s.queue q).state = .running ∨ (s.queue q).state = .draining ∨ (s.queue q).state = .faulted

/-- The payload writes of an entry of queue q that STOP withdraws: those that still wait at the arbiter (R42). -/
def State.withdrawnWrites (s : State) (q : QueueId) (e : Entry) : Nat :=
  (s.mem.waiting.filter (fun r => r.owner = .payload q e.start)).length

/-- The entries of queue q that a STOP leaves ready, and so resolves at once (R41, R42, R95). -/
def State.resolvedByStop (s : State) (q : QueueId) : List Entry :=
  (s.entriesOf q).filter (fun e => decide (e.beatsTaken = e.words.val) && (match e.state with
    | .filling => decide (e.writesOutstanding = 0)
    | .discarding => decide (e.writesOutstanding = 0)
    | .writing => decide (e.writesOutstanding ≤ s.withdrawnWrites q e)
    | _ => false))

/-- The log entries of a STOP of queue q, in order (R174). -/
def State.stopLogEntries (s : State) (q : QueueId) : List LogEntry :=
  ((s.queue q).pushWaiters ++ (s.queue q).popWaiters).map (fun w => queueLogEntry .state w.requester w.tag q) ++
    (s.resolvedByStop q).map (fun e => abandonedLogEntry e
      (match e.state with | .discarding => e.cause | _ => some (e.cause.getD .stop)))

/-- In t, each entry of queue q is what a STOP in s makes of it (R42, R43). -/
def State.stopActedOn (s t : State) (q : QueueId) : Prop :=
  ∀ e ∈ s.entriesOf q,
    (e.state = .filling → e.beatsTaken < e.words.val →
      { e with state := .discarding, cause := some (e.cause.getD .stop) } ∈ t.reservations) ∧
    (e.state = .writing →
      (s.withdrawnWrites q e < e.writesOutstanding →
        { e with
          state := .discarding
          cause := some (e.cause.getD .stop)
          writesOutstanding := e.writesOutstanding - s.withdrawnWrites q e } ∈ t.reservations) ∧
      (e.writesOutstanding ≤ s.withdrawnWrites q e → e.beatsTaken = e.words.val → t.entryAt q e.start = none)) ∧
    (e.state = .discarding → e.beatsTaken < e.words.val ∨ 0 < e.writesOutstanding → e ∈ t.reservations) ∧
    (e.state = .sealing → e ∈ t.reservations) ∧
    (e.state = .closed ∨ e.state = .failed → t.entryAt q e.start = none)

/-- The context of a queue that STOP leaves in STOPPING (R95). -/
def Queue.inStopping (x : Queue) : Queue :=
  { x with state := .stopping, faultReason := none, pushWaiters := [], popWaiters := [] }

/-! ### A soft reset in progress -/

/-- The commands by which the bridge carries on with work already taken (R149, R168). -/
def carriesOn : Instr → Bool
  | .writeBeat _ _ _ | .memoryPassage _ | .payloadWriteOk _ | .payloadWriteError _ | .headerWriteOk _ | .headerWriteError _
  | .popReadOk _ _ | .popReadError _ | .passThroughReadCompletion _ _ _ | .passThroughWriteCompletion _ _
  | .noticeWriteCompletion _ _ | .discardedCompletion _ _ _ | .waiterExpiry _ _ => true
  | .takeRequest _ | .requestFrame _ | .fetch _ | .readStatus | .readWindow | .writeWindow | .readClassMap | .writeClass
  | .readQueue | .configureQueue | .start | .drain | .stop | .flush | .clearFault | .armNotice | .readLog | .peekLog
  | .softReset | .powerOnReset _ | .queueCommand => false

/-- s with no soft reset in progress, no request at the port and no command waiting. -/
def State.alone (s : State) : State :=
  ((s.withLink { s.link with softReset := false }).withSys { s.sys with arrivals := [] }).withPending []

/-- t with the requests at the port and the waiting commands of s, and the soft-reset flag as given. -/
def State.backIn (t s : State) (flag : Bool) : State :=
  ((t.withLink { t.link with softReset := flag }).withSys { t.sys with arrivals := s.sys.arrivals }).withPending s.pending

/-- Every queue is STOPPED and the tracker is empty: the test of R168. -/
def State.runDown (s : State) : Prop := (∀ q, (s.queue q).state = .stopped) ∧ s.sys.tracker = []

/-! ### Laws -/

/-- The pools stay within their capacities (R18, R54, R76, R112, R134, R144, R171, R175). -/
structure CapacityLaw (s : State) : Prop where
  tracker      : s.sys.tracker.length ≤ 64
  reservations : s.reservations.length ≤ 48
  popEntries   : ∀ q, (s.queue q).popEntries.length ≤ 16
  slots        : s.slotsInUse ≤ 32
  notices      : ∀ q, (s.queue q).notices.length ≤ 2
  outstanding  : s.mem.passed.length ≤ 96
  log          : s.log.entries.length ≤ 32
  lost         : s.log.lost ≤ 65535

/-- The lost count is greater than 0 only while the log holds at least one entry (R175). -/
def LostLaw (s : State) : Prop := 0 < s.log.lost → s.log.entries ≠ []

/-- The fault reason is present exactly while the state is FAULTED (R2). -/
def FaultLaw (s : State) : Prop := ∀ q, (s.queue q).faultReason ≠ none ↔ (s.queue q).state = .faulted

/-- Push waiters wait only in RUNNING, pop waiters only in RUNNING and DRAINING (R83, R88). -/
def WaiterLaw (s : State) : Prop :=
  ∀ q, ((s.queue q).pushWaiters ≠ [] → (s.queue q).state = .running) ∧
    ((s.queue q).popWaiters ≠ [] → (s.queue q).state = .running ∨ (s.queue q).state = .draining)

/-- No two tracker entries hold the same requester and tag (R134). -/
def TrackerLaw (s : State) : Prop :=
  s.sys.tracker.Pairwise (fun x y => ¬(x.request.requester = y.request.requester ∧ x.request.tag = y.request.tag))

/-- No two outstanding requests hold the same request number, and every number is 0..95 (R143). -/
def NumberLaw (s : State) : Prop :=
  (s.mem.passed.map (fun p => p.number)).Nodup ∧ ∀ p ∈ s.mem.passed, p.number < 96

/-- While a soft reset is in progress every queue is STOPPING or STOPPED, and it has not yet met its completion condition
(R106, R168). -/
def SoftResetLaw (s : State) : Prop :=
  s.link.softReset = true →
    (∀ q, (s.queue q).state = .stopping ∨ (s.queue q).state = .stopped) ∧
      ¬((∀ q, (s.queue q).state = .stopped) ∧ s.sys.tracker = [])

/-- The entries es cover the positions from p to r one after the other, with consecutive sequence numbers from n on (R20,
R21). -/
def tiles (r : Position) (last : Sequence) : List Entry → Position → Sequence → Prop
  | [], p, n => p = r ∧ n = last
  | e :: es, p, n => e.start = p ∧ e.sequence = n ∧ tiles r last es (advance p (recordWords e.words)) (n + 1)

/-- The pop entries, in list order, lie one after the other from `low` words after the release position on, and end at or
before `bound` words after it (R55). -/
def popsWithin (release : Position) (bound : Nat) : List PopEntry → Nat → Prop
  | [], low => low ≤ bound
  | e :: es, low =>
    low ≤ wordsBetween release e.start ∧
      popsWithin release bound es (wordsBetween release e.start + e.words.val)

/-- The release position that the Pop Entry List calls for (R55). -/
def Queue.oldestPop (x : Queue) : Position :=
  match x.popEntries with
  | [] => x.read
  | e :: _ => e.start

/-- The law of one queue, es being its reservation entries: the order of the positions (R6), the pop entries' places (R55),
the tiling of its entries (R20), and what a STOPPED queue holds (R97). -/
structure QueueLaw (x : Queue) (es : List Entry) : Prop where
  size    : x.config.ringSize ≤ 2097152
  order   : x.inFlight + x.visible + x.openWords = wordsBetween x.release x.reserve
  span    : wordsBetween x.release x.reserve ≤ x.config.ringSize
  pops    : popsWithin x.release x.inFlight x.popEntries 0
  oldest  : x.release = x.oldestPop
  tiling  : x.state = .running ∨ x.state = .draining ∨ x.state = .faulted →
              (∃ n, tiles x.reserve x.nextSequence es x.commit n) ∧
                (es.map (fun e => recordWords e.words)).sum = x.openWords
  stopped : x.state = .stopped → es = [] ∧ x.popEntries = [] ∧ x.release = 0 ∧ x.read = 0 ∧ x.commit = 0 ∧ x.reserve = 0
  pushers : x.pushWaiters ≠ [] → x.state = .running

/-- The position law of the whole bridge. -/
def PositionLaw (s : State) : Prop := ∀ q, QueueLaw (s.queue q) (s.entriesOf q)

/-- No Push Waiter list has an eligible head while a reservation entry is free (R36, R78), unless the arbiter's run has been
put off to the end of the next command: the model's device for R37 (log entry 8). -/
def HeadLaw (s : State) : Prop := s.arbiterDue = false → s.reservations.length < 48 → ∀ q, s.eligibleHead q = none

/-- The arbiter's run is put off only where the next command is a TAKE_REQUEST: the model's device for R37 (log entry 8). -/
def ArbiterLaw (s : State) : Prop := s.arbiterDue = true → ∃ q rest, s.pending = .takeRequest q :: rest

/-- The hold clock has passed no deadline of a held request: the model's choice (log entries 1 and 2), by which it keeps R81. -/
def ClockLaw (s : State) : Prop := ∀ h ∈ s.heldRequests, s.hold.clock ≤ h.waiter.deadline

/-- No pop waiter at the head of its list could be granted (R80). -/
def PopHeadLaw (s : State) : Prop :=
  ∀ q w ws, (s.queue q).popWaiters = w :: ws →
    (s.queue q).visible < w.length.val ∨ 16 ≤ (s.queue q).popEntries.length

/-! ### Configurations -/

/-- The bytes of the ring of c (R8). -/
def QueueConfig.ringByte (c : QueueConfig) (a : Nat) : Prop :=
  c.ringBase.toNat ≤ a ∧ a < c.ringBase.toNat + 8 * c.ringSize

/-- A ring size of R1. -/
def ringSizeValue (n : Nat) : Prop := n = 0 ∨ ∃ k, 9 ≤ k ∧ k ≤ 21 ∧ n = 2 ^ k

/-- The checks R10 makes of every configuration. -/
def QueueConfig.valid (c : QueueConfig) : Prop :=
  ringSizeValue c.ringSize ∧ 1 ≤ c.holdLimit ∧ c.holdLimit ≤ 65535 ∧ c.threshold ≤ c.ringSize ∧
    c.noticeAddress.toNat % 8 = 0

/-- The checks R10 makes in addition of a configuration with a ring, for queue q. -/
def State.ringFits (s : State) (q : QueueId) (c : QueueConfig) : Prop :=
  c.ringBase.toNat % 4096 = 0 ∧ c.ringBase.toNat + 8 * c.ringSize ≤ 2 ^ 40 ∧ ¬c.ringByte c.noticeAddress.toNat ∧
    ∀ p, p ≠ q → (s.queue p).config.ringSize ≠ 0 →
      (¬∃ a, c.ringByte a ∧ (s.queue p).config.ringByte a) ∧
        ¬c.ringByte (s.queue p).config.noticeAddress.toNat ∧
          ¬(s.queue p).config.ringByte c.noticeAddress.toNat

/-- A configuration that CONFIGURE-QUEUE for queue q accepts (R10). -/
def State.accepts (s : State) (q : QueueId) (c : QueueConfig) : Prop :=
  c.valid ∧ (c.ringSize ≠ 0 → s.ringFits q c)

/-- A window whose values WRITE-WINDOW accepts (R117). -/
def Window.valid (w : Window) : Prop :=
  w.base.toNat % 4096 = 0 ∧ w.limit.toNat % 4096 = 0 ∧ w.target.toNat % 4096 = 0 ∧ w.base.toNat ≤ w.limit.toNat ∧
    (w.kind = .remap → w.target.toNat + (w.limit.toNat - w.base.toNat) + 4095 < 2 ^ 40)

end Sys2Proof.Machine
end

