-- ==== Sys2Proof/Certificates/Slice0/Obligations.lean ====
section
/-! DEFINITION. The statements for the provers. In a result, `s.clearOutputs` is s with the outputs of the previous command
gone (log entry 12); everything a result does not change stands in it as it stood in s. -/

open Sys2Proof Sys2Proof.Machine

/-! ### The step -/

/-- A step takes the command at the front of the queue and executes it with the queue's rest. -/
def Obligations.StepTakesTheFrontCommand : Prop :=
  ∀ (s : State) (c : Instr) (rest : List Instr), s.pending = c :: rest → step s = exec c (s.withPending rest)

/-- On an empty command queue, hold time passes by one microsecond while no deadline is reached, and otherwise a held
request whose deadline is reached, and is not later than any other's, expires (the model's choice, log entry 1; which of
several is free). -/
def Obligations.EmptyQueueLetsHoldTimePass : Prop :=
  ∀ s : State, s.pending = [] →
    ((∀ h ∈ s.heldRequests, s.hold.clock < h.waiter.deadline) →
      step s = .next { s.clearOutputs with hold := { s.hold with clock := s.hold.clock + 1 } }) ∧
    ((∃ h ∈ s.heldRequests, h.waiter.deadline ≤ s.hold.clock) →
      ∃ h ∈ s.heldRequests, h.waiter.deadline ≤ s.hold.clock ∧
        (∀ k ∈ s.heldRequests, h.waiter.deadline ≤ k.waiter.deadline) ∧
        (step s = exec (.waiterExpiry h.waiter.requester h.waiter.tag) s ∨
          step s = exec (.waiterExpiry h.waiter.requester h.waiter.tag) s.useFree))

/-! ### Resets -/

/-- R3 for every queue; R19, R56, R87, R108, R116, R148, R170 and R171 for the other blocks. -/
def Obligations.PowerOnResetGivesEveryBlockItsPowerOnValues : Prop :=
  (∀ (s : State) (periodInProgress : Bool), ∃ t, exec (.powerOnReset periodInProgress) s = .next t ∧
    ∀ q, (t.queue q).config.ringBase = 0 ∧ (t.queue q).config.ringSize = 0 ∧
      (t.queue q).config.fullPolicy = .refuse ∧ (t.queue q).config.emptyPolicy = .refuse ∧
      (t.queue q).config.holdLimit = 1000 ∧ (t.queue q).config.logRetries = false ∧
      (t.queue q).config.directAccess = 0 ∧ (t.queue q).config.noticeAddress = 0 ∧
      (t.queue q).config.noticeValue = 0 ∧ (t.queue q).config.threshold = 0 ∧ (t.queue q).state = .stopped ∧
      (t.queue q).release = 0 ∧ (t.queue q).read = 0 ∧ (t.queue q).commit = 0 ∧ (t.queue q).reserve = 0 ∧
      (t.queue q).nextSequence = 0 ∧ (t.queue q).faultReason = none ∧ (t.queue q).resume = .running ∧
      (t.queue q).noticeArmed = false) ∧
  (∀ (s : State) (periodInProgress : Bool), ∃ t, exec (.powerOnReset periodInProgress) s = .next t ∧
    t.reservations = [] ∧
    (∀ q, (t.queue q).popEntries = [] ∧ (t.queue q).pushWaiters = [] ∧ (t.queue q).popWaiters = [] ∧
      (t.queue q).notices = []) ∧
    t.slotsInUse = 0 ∧ t.sys.tracker = [] ∧ t.outstanding = 0 ∧ t.mem.passed = [] ∧ t.mem.waiting = [] ∧
    (∀ i : WindowIndex, t.windows[i] = ⟨false, 0, 0, .pass, 0, 0, 0⟩) ∧ (∀ r, t.classOf r = 0) ∧
    t.link.buffer = [] ∧ t.link.received = 0 ∧ t.link.request = none ∧ t.link.slot = .none ∧
    t.link.softReset = false ∧ t.link.ignorePeriod = periodInProgress ∧ t.log.entries = [] ∧ t.log.lost = 0 ∧
    t.attentionLine = false)

/-- R167, R106: SOFT-RESET gives STOP to every queue that is not STOPPED, and completes at once exactly when then every
queue is STOPPED and the tracker is empty, nothing being stalled at the port. R95, R42, R43: each queue in RUNNING, DRAINING or
FAULTED ends in STOPPING, or in STOPPED when nothing of it is left, its entries acted on and its payload writes withdrawn as by
STOP; and a queue in STOPPING stays as it is. R149, R174: every held request is answered DECLINE (STATE), and the log takes the
entries of each STOP, queue by queue (that the arbiter runs once, after all the STOPs, is the model's reading, log entry 28).
The entries of a queue have different start positions. And the model's reading (log entry 23) of a case that no run reaches: a
command other than READ-STATUS that is pending during a soft reset is answered BUSY when it executes, and changes nothing else.
-/
def Obligations.SoftResetStopsEveryQueueAndAnswersBusy : Prop :=
  (∀ (s : State) (superseded : Bool), s.asks .softReset [] superseded → s.sys.arrivals = [] → WaiterLaw s →
    ∃ t, exec .softReset s = .next t ∧
      (∀ q, (t.queue q).state = .stopping ∨ (t.queue q).state = .stopped) ∧
      (∀ q, (t.queue q).config = (s.queue q).config) ∧
      (∀ q, (s.queue q).state = .stopped → t.queue q = s.queue q) ∧
      t.windows = s.windows ∧ t.classes = s.classes ∧ t.mem.passed = s.mem.passed ∧
      t.link.request = none ∧ t.link.slot = (if superseded then s.link.slot else .held .accepted []) ∧
      (t.link.softReset = false ↔ (∀ q, (t.queue q).state = .stopped) ∧ t.sys.tracker = []) ∧
      (t.link.softReset = false → t.log.entries = [] ∧ t.log.lost = 0) ∧
      (∀ q, (s.queue q).state = .stopping → t.queue q = s.queue q ∧ t.entriesOf q = s.entriesOf q) ∧
      (∀ q, s.stoppable q →
        (t.entriesOf q ≠ [] ∨ (s.queue q).popEntries ≠ [] → t.queue q = (s.queue q).inStopping) ∧
        (t.entriesOf q = [] → (s.queue q).popEntries = [] → t.queue q = (s.queue q).atStopped) ∧
        ∀ w, w ∈ (s.queue q).pushWaiters ∨ w ∈ (s.queue q).popWaiters →
          (∀ e ∈ s.reservations, ¬(e.requester = w.requester ∧ e.tag = w.tag)) → s.answersHeld t w .decline .state) ∧
      ((∀ q, ((s.entriesOf q).map (fun e => e.start)).Nodup) →
        (t.link.softReset = true → t.log = s.log.appendAll ((List.finRange 16).flatMap (fun q =>
          match (s.queue q).state with
          | .stopped => []
          | .stopping => []
          | _ => s.stopLogEntries q))) ∧
        ∀ q, s.stoppable q → s.stopActedOn t q ∧
          ∀ e ∈ s.resolvedByStop q, s.writeReady e.requester e.tag → ⟨e.requester, e.tag, .decline, []⟩ ∈ t.sys.sent) ∧
      t.mem.waiting = s.mem.waiting.filter (fun r =>
        match r.owner with
        | .payload q _ => decide ((s.queue q).state = .stopped ∨ (s.queue q).state = .stopping)
        | _ => true)) ∧
  (∀ (s : State) (c : Command) (payload : List Byte) (superseded : Bool),
    s.link.request = some ⟨c, payload, superseded⟩ → s.link.softReset = true → c ≠ .readStatus →
    ¬((∀ q, (s.queue q).state = .stopped) ∧ s.sys.tracker = []) →
    exec c.row s = .next (s.clearOutputs.executed superseded .busy []) ∧
      ∀ (a : QueueAction) (q : QueueId), c = .queueCommand → payload = [byteOf q.val, a.code] →
        exec a.row s = .next (s.clearOutputs.executed superseded .busy []))

/-! ### The management link: requests and fetches -/

/-- R151, R154: the six cases at the end of a request period, whose bytes come most significant bit first; the bits after
the last whole byte are ignored, and data out carries 0x00. R151: a period without a whole byte has no effect. R152: nor has
one that was in progress when a power-on reset arrived. That data out carries zeros in these two is the model's choice (log
entries 14 and 15). -/
def Obligations.RequestFrameIsDecidedByTheFirstCase : Prop :=
  (∀ (s : State) (code : Byte) (more : List Byte) (tail : List Bool), code ≠ 0xF0 → tail.length < 8 →
    s.link.ignorePeriod = false →
    ∃ l : Link, exec (.requestFrame (linkBits (code :: more) ++ tail)) s = .next { s.clearOutputs with link := l } ∧
      l.buffer = [] ∧ l.received = 0 ∧ l.softReset = s.link.softReset ∧ l.ignorePeriod = false ∧
      l.dataOut = List.replicate (8 * (more.length + 1) + tail.length) false ∧
      (¬wellFormedFrame (code :: more) →
        l.slot = .held .badFrame [] ∧
          l.request = s.link.request.map (fun p => { p with superseded := true })) ∧
      (wellFormedFrame (code :: more) →
        (∀ p, s.link.request = some p →
          l.slot = .held .busy [] ∧ l.request = some { p with superseded := true }) ∧
        (s.link.request = none →
          ((∀ c : Command, c.code ≠ code) → l.slot = .held .unknownCommand [] ∧ l.request = none) ∧
          (∀ c : Command, c.code = code →
            (s.link.softReset = true ∧ c ≠ .readStatus → l.slot = .held .busy [] ∧ l.request = none) ∧
            (¬(s.link.softReset = true ∧ c ≠ .readStatus) →
              (more.length ≠ c.payloadLength + 2 → l.slot = .held .badValue [] ∧ l.request = none) ∧
              (more.length = c.payloadLength + 2 →
                l.slot = .awaiting ∧
                  l.request = some ⟨c, (more.drop 1).take c.payloadLength, false⟩)))))) ∧
  (∀ (s : State) (bits : List Bool), bits.length < 8 → s.link.ignorePeriod = false →
    exec (.requestFrame bits) s = .next { s.clearOutputs with
      link := { s.link with dataOut := List.replicate bits.length false } }) ∧
  (∀ (s : State) (bits : List Bool), s.link.ignorePeriod = true →
    exec (.requestFrame bits) s = .next { s.clearOutputs with
      link := { s.link with ignorePeriod := false, dataOut := List.replicate bits.length false } })

/-- R156: the three answers to a fetch, on data out from the second byte on, each byte most significant bit first (R151);
and R151: a period whose first byte is the fetch code is a fetch, however many bits follow it. -/
def Obligations.FetchGivesTheSlotsAnswer : Prop :=
  (∀ (s : State) (clocks : Nat), s.link.ignorePeriod = false →
    ∃ frame slot, exec (.fetch clocks) s = .next { s.clearOutputs with
        link := { s.link with
          slot := slot
          dataOut := List.replicate 8 false ++ (linkBits frame ++ List.replicate clocks false).take clocks } } ∧
      (s.link.slot = .none → frame = [0x31, 0, 0xCF] ∧ slot = .none) ∧
      (s.link.slot = .awaiting → frame = [0x30, 0, 0xD0] ∧ slot = .awaiting) ∧
      (∀ r payload, s.link.slot = .held r payload →
        slot = .none ∧ ∃ check, frame = r.code :: BitVec.ofNat 8 payload.length :: payload ++ [check] ∧
          (frame.map BitVec.toNat).sum % 256 = 0)) ∧
  (∀ (s : State) (more : List Bool), exec (.requestFrame (linkBits [0xF0] ++ more)) s = exec (.fetch more.length) s)

/-! ### The management link: reading, table and log commands -/

/-- R157. -/
def Obligations.ReadStatusReportsTheBridge : Prop :=
  ∀ (s : State) (superseded : Bool), s.link.request = some ⟨.readStatus, [], superseded⟩ →
    s.log.entries.length ≤ 32 →
    ∃ bytes : List Byte, exec .readStatus s = .next (s.clearOutputs.executed superseded .done bytes) ∧
      bytes.length = 24 ∧ field bytes 0 2 = 0x3160 ∧ field bytes 2 1 = 1 ∧ field bytes 3 1 = 16 ∧
      field bytes 4 1 = 32 ∧ field bytes 5 1 = (if s.link.softReset then 1 else 0) ∧
      (field bytes 6 1 = 1 ↔ s.log.entries ≠ [] ∨ ∃ q, (s.queue q).state = .faulted) ∧
      (∀ q : QueueId, field bytes (7 + q.val) 1 = (s.queue q).state.code) ∧
      field bytes 23 1 = s.log.entries.length

/-- R158: READ-WINDOW. R117, R159, R181: WRITE-WINDOW checks the index, then every field value, and replaces the entry
whole. -/
def Obligations.WindowCommandsReadAndReplaceAnEntry : Prop :=
  (∀ (s : State) (index : Byte) (superseded : Bool), s.asks .readWindow [index] superseded →
    (∀ i : WindowIndex, index.toNat = i.val →
      exec .readWindow s = .next (s.clearOutputs.executed superseded .done (s.windows[i]).bytes)) ∧
    (32 ≤ index.toNat → exec .readWindow s = .next (s.clearOutputs.executed superseded .badIndex []))) ∧
  (∀ (s : State) (index : Byte) (bs : List Byte) (superseded : Bool), bs.length = 19 →
    s.asks .writeWindow (index :: bs) superseded →
    (32 ≤ index.toNat → exec .writeWindow s = .next (s.clearOutputs.executed superseded .badIndex [])) ∧
    (∀ i : WindowIndex, index.toNat = i.val →
      (∀ w : Window, w.valid → bs = w.bytes →
        exec .writeWindow s =
          .next ({ s.clearOutputs with windows := s.windows.set i.val w i.isLt }.executed superseded .done [])) ∧
      ((¬∃ w : Window, w.valid ∧ bs = w.bytes) →
        exec .writeWindow s = .next (s.clearOutputs.executed superseded .badValue []))))

/-- R160: READ-CLASS-MAP. R161: WRITE-CLASS. -/
def Obligations.ClassCommandsReadAndReplaceClasses : Prop :=
  (∀ (s : State) (superseded : Bool), s.asks .readClassMap [] superseded →
    ∃ bytes : List Byte, exec .readClassMap s = .next (s.clearOutputs.executed superseded .done bytes) ∧
      bytes.length = 16 ∧
      ∀ (k : Fin 16) (j : Fin 4), field bytes k.val 1 / 4 ^ j.val % 4 = (s.classOf ⟨4 * k.val + j.val, by omega⟩).val) ∧
  (∀ (s : State) (requester cls : Byte) (superseded : Bool), s.asks .writeClass [requester, cls] superseded →
    (64 ≤ requester.toNat → exec .writeClass s = .next (s.clearOutputs.executed superseded .badIndex [])) ∧
    (∀ r : Requester, requester.toNat = r.val →
      (4 ≤ cls.toNat → exec .writeClass s = .next (s.clearOutputs.executed superseded .badValue [])) ∧
      (∀ c : RequesterClass, cls.toNat = c.val →
        exec .writeClass s =
          .next ({ s.clearOutputs with classes := s.classes.set r.val c r.isLt }.executed superseded .done []))))

/-- R162, R181: the snapshot of a queue, each value at its place; and BAD-INDEX for an index of 16 or more. -/
def Obligations.ReadQueueReturnsTheSnapshot : Prop :=
  (∀ (s : State) (q : QueueId) (superseded : Bool), s.asks .readQueue [byteOf q.val] superseded →
    (s.queue q).config.ringSize < 2 ^ 24 → (s.queue q).config.holdLimit < 2 ^ 16 →
    (s.queue q).config.threshold < 2 ^ 24 → CapacityLaw s →
    ∃ bytes : List Byte, exec .readQueue s = .next (s.clearOutputs.executed superseded .done bytes) ∧
      bytes.length = 60 ∧ QueueConfig.ofBytes (bytes.take 28) = some (s.queue q).config ∧
      field bytes 28 1 = (s.queue q).state.code + 16 * (s.queue q).resume.code ∧
      field bytes 29 1 = faultCode (s.queue q).faultReason ∧
      field bytes 30 4 = (s.queue q).release.toNat ∧ field bytes 34 4 = (s.queue q).read.toNat ∧
      field bytes 38 4 = (s.queue q).commit.toNat ∧ field bytes 42 4 = (s.queue q).reserve.toNat ∧
      field bytes 46 2 = (s.queue q).nextSequence.toNat ∧
      field bytes 48 1 = countIn (s.entriesOf q) .filling ∧ field bytes 49 1 = countIn (s.entriesOf q) .writing ∧
      field bytes 50 1 = countIn (s.entriesOf q) .sealing ∧ field bytes 51 1 = countIn (s.entriesOf q) .closed ∧
      field bytes 52 1 = countIn (s.entriesOf q) .discarding ∧ field bytes 53 1 = countIn (s.entriesOf q) .failed ∧
      field bytes 54 1 = (s.queue q).popEntries.length ∧
      field bytes 55 1 = ((s.queue q).popEntries.filter (fun p => p.errorSeen)).length ∧
      field bytes 56 1 = (s.queue q).pushWaiters.length ∧ field bytes 57 1 = (s.queue q).popWaiters.length ∧
      field bytes 58 1 = (if (s.queue q).noticeArmed then 1 else 0) ∧
      field bytes 59 1 = (s.queue q).notices.length) ∧
  (∀ (s : State) (index : Byte) (superseded : Bool), s.asks .readQueue [index] superseded → 16 ≤ index.toNat →
    exec .readQueue s = .next (s.clearOutputs.executed superseded .badIndex []))

/-- R165: READ-LOG. R166: PEEK-LOG. R182: the 15 bytes of a log entry with the lost count. -/
def Obligations.LogCommandsReturnTheOldestEntry : Prop :=
  (∀ (s : State) (superseded : Bool), s.asks .readLog [] superseded →
    (s.log.entries = [] → exec .readLog s = .next (s.clearOutputs.executed superseded .logEmpty [])) ∧
    (∀ e rest, s.log.entries = e :: rest →
      exec .readLog s =
        .next ({ s.clearOutputs with log := ⟨rest, 0⟩ }.executed superseded .done (e.bytes s.log.lost)))) ∧
  (∀ (s : State) (superseded : Bool), s.asks .peekLog [] superseded →
    (s.log.entries = [] → exec .peekLog s = .next (s.clearOutputs.executed superseded .logEmpty [])) ∧
    (∀ e rest, s.log.entries = e :: rest →
      exec .peekLog s = .next (s.clearOutputs.executed superseded .done (e.bytes s.log.lost)))) ∧
  (∀ (e : LogEntry) (lost : Nat), lost ≤ 65535 →
    (∀ n, e.words = some (.count n) → n < 256) →
    (e.bytes lost).length = 15 ∧ (e.bytes lost)[0]? = some e.reason.code ∧
      field (e.bytes lost) 1 1 = (if e.origin.isSome then 1 else 0) + (if e.address.isSome then 2 else 0) +
        (if e.queue.isSome then 4 else 0) + (if e.sequence.isSome then 8 else 0) + (if e.words.isSome then 16 else 0) ∧
      field (e.bytes lost) 2 1 = (match e.origin with | none => 0 | some o => o.1.val) ∧
      field (e.bytes lost) 3 1 = (match e.origin with | none => 0 | some o => o.2.val) ∧
      field (e.bytes lost) 4 5 = (match e.address with | none => 0 | some a => a.toNat) ∧
      field (e.bytes lost) 9 1 = (match e.queue with | none => 0 | some q => q.val) ∧
      field (e.bytes lost) 10 2 = (match e.sequence with | none => 0 | some n => n.toNat) ∧
      field (e.bytes lost) 12 1 = (match e.words with
        | none => 0
        | some (.count n) => n
        | some (.cause .poison) => 1
        | some (.cause .payloadError) => 2
        | some (.cause .stop) => 3
        | some (.fault .fullLatch) => 1
        | some (.fault .emptyLatch) => 2
        | some (.fault .headerWrite) => 3
        | some (.fault .ringRead) => 4) ∧
      field (e.bytes lost) 13 2 = lost)

/-! ### The management link: queue commands -/

/-- R10, R11, R163: CONFIGURE-QUEUE checks the index, the state and the values in this order, and replaces all ten fields.
That it accepts ring size 0 with a ring base that is not a multiple of 4096 is the model's reading (log entry 26). -/
def Obligations.ConfigureQueueReplacesAValidConfiguration : Prop :=
  ∀ (s : State) (index : Byte) (bs : List Byte) (superseded : Bool), bs.length = 28 →
    s.asks .configureQueue (index :: bs) superseded →
    (16 ≤ index.toNat → exec .configureQueue s = .next (s.clearOutputs.executed superseded .badIndex [])) ∧
    (∀ q : QueueId, index.toNat = q.val →
      ((s.queue q).state ≠ .stopped →
        exec .configureQueue s = .next (s.clearOutputs.executed superseded .refusedState [])) ∧
      ((s.queue q).state = .stopped →
        (∀ c : QueueConfig, s.accepts q c → bs = c.bytes →
          exec .configureQueue s = .next
            ((s.clearOutputs.setQueue q { s.queue q with config := c }).executed superseded .done [])) ∧
        ((¬∃ c : QueueConfig, s.accepts q c ∧ bs = c.bytes) →
          exec .configureQueue s = .next (s.clearOutputs.executed superseded .badValue []))))

/-- R164: QUEUE-COMMAND refuses a bad index, then a bad action, and otherwise is the action's own event. -/
def Obligations.QueueCommandCarriesOutItsAction : Prop :=
  ∀ (s : State) (index action : Byte) (superseded : Bool), s.asks .queueCommand [index, action] superseded →
    (16 ≤ index.toNat → exec .queueCommand s = .next (s.clearOutputs.executed superseded .badIndex [])) ∧
    (index.toNat < 16 →
      ((∀ a : QueueAction, a.code ≠ action) →
        exec .queueCommand s = .next (s.clearOutputs.executed superseded .badValue [])) ∧
      (∀ a : QueueAction, a.code = action →
        ∃ t, exec .queueCommand s = .next t ∧ exec a.row s = .next t ∧ t.link.request = none))

/-- R91. -/
def Obligations.StartRunsAStoppedQueue : Prop :=
  ∀ (s : State) (q : QueueId) (superseded : Bool), s.orders .start q superseded →
    ((s.queue q).state = .stopped → (s.queue q).config.ringSize ≠ 0 →
      exec .start s = .next ((s.clearOutputs.setQueue q { s.queue q with
        state := .running
        release := 0
        read := 0
        commit := 0
        reserve := 0
        nextSequence := 0
        noticeArmed := decide ((s.queue q).config.threshold ≠ 0) }).executed superseded .done [])) ∧
    ((s.queue q).state = .stopped → (s.queue q).config.ringSize = 0 →
      exec .start s = .next (s.clearOutputs.executed superseded .badConfig [])) ∧
    ((s.queue q).state ≠ .stopped →
      exec .start s = .next (s.clearOutputs.executed superseded .refusedState []))

/-- R92, R83: DRAIN of a RUNNING queue that owns a reservation entry releases its push waiters and changes nothing else of the
queue, nothing being stalled at the port; what DRAIN answers in the other states; and, R93, R97, DRAIN of a RUNNING queue that
is quiet with visible 0 answers every waiter and arrives at STOPPED (no two held requests share a requester and tag). R92, R80:
DRAIN of a RUNNING queue that owns no reservation entry, but has words visible or a pop entry, releases its push waiters and
then re-examines its Pop Waiter list: a head that visible cannot satisfy is answered DECLINE (DRAINED), one that it can is
granted. -/
def Obligations.DrainReleasesThePushWaiters : Prop :=
  (∀ (s : State) (q : QueueId) (superseded : Bool), s.orders .drain q superseded → s.sys.arrivals = [] →
    (s.queue q).state = .running → s.entriesOf q ≠ [] →
    ∃ t, exec .drain s = .next t ∧
      t.queue q = { s.queue q with state := .draining, pushWaiters := [] } ∧
      (∀ p, p ≠ q → t.queue p = s.queue p) ∧ t.reservations = s.reservations ∧ t.hold = s.hold ∧
      t.mem = { s.mem with handed := [] } ∧ t.windows = s.windows ∧ t.classes = s.classes ∧
      t.log = s.log.appendAll ((s.queue q).pushWaiters.map (fun w => queueLogEntry .state w.requester w.tag q)) ∧
      (∀ w ∈ (s.queue q).pushWaiters, s.answersHeld t w .decline .state) ∧
      t.link = (s.clearOutputs.executed superseded .done []).link) ∧
  (∀ (s : State) (q : QueueId) (superseded : Bool), s.orders .drain q superseded →
    ((s.queue q).state = .draining → exec .drain s = .next (s.clearOutputs.executed superseded .done [])) ∧
    ((s.queue q).state = .stopped ∨ (s.queue q).state = .stopping ∨ (s.queue q).state = .faulted →
      exec .drain s = .next (s.clearOutputs.executed superseded .refusedState []))) ∧
  (∀ (s : State) (q : QueueId) (superseded : Bool), s.orders .drain q superseded → s.sys.arrivals = [] →
    (s.heldRequests.map (fun h => (h.waiter.requester, h.waiter.tag))).Nodup →
    (s.queue q).state = .running → s.entriesOf q = [] → (s.queue q).popEntries = [] → (s.queue q).visible = 0 →
    ∃ t, exec .drain s = .next t ∧
      t.queue q = (s.queue q).atStopped ∧
      (∀ p, p ≠ q → t.queue p = s.queue p) ∧ t.reservations = s.reservations ∧
      t.log = s.log.appendAll ((s.queue q).pushWaiters.map (fun w => queueLogEntry .state w.requester w.tag q) ++
        (s.queue q).popWaiters.map (fun w => queueLogEntry .drained w.requester w.tag q)) ∧
      (∀ w ∈ (s.queue q).pushWaiters, s.answersHeld t w .decline .state) ∧
      (∀ w ∈ (s.queue q).popWaiters, s.answersHeld t w .decline .drained) ∧
      t.link = (s.clearOutputs.executed superseded .done []).link) ∧
  (∀ (s : State) (q : QueueId) (superseded : Bool), s.orders .drain q superseded → s.sys.arrivals = [] →
    (s.queue q).state = .running → s.entriesOf q = [] → (s.queue q).popEntries ≠ [] ∨ (s.queue q).visible ≠ 0 →
    ∃ u : State, u.queue q = { s.queue q with state := .draining, pushWaiters := [] } ∧
      (∀ p, p ≠ q → u.queue p = s.queue p) ∧ u.reservations = s.reservations ∧ u.hold = s.hold ∧
      u.mem = { s.mem with handed := [] } ∧ u.windows = s.windows ∧ u.classes = s.classes ∧
      u.log = s.log.appendAll ((s.queue q).pushWaiters.map (fun w => queueLogEntry .state w.requester w.tag q)) ∧
      (∀ w ∈ (s.queue q).pushWaiters, s.answersHeld u w .decline .state) ∧
      exec .drain s = .next ((u.reexaminePop q).executed superseded .done []) ∧
      (∀ w, (s.queue q).popWaiters = [w] → w.length.val ≤ (s.queue q).visible → (s.queue q).popEntries.length < 16 →
        exec .drain s = .next (((u.setQueue q { u.queue q with popWaiters := [] }).grantPop q w.requester w.tag
          w.length).executed superseded .done [])) ∧
      ((∀ w ∈ (s.queue q).popWaiters, (s.queue q).visible < w.length.val) →
        (s.heldRequests.map (fun h => (h.waiter.requester, h.waiter.tag))).Nodup →
        ∃ t, exec .drain s = .next t ∧
          t.queue q = { s.queue q with state := .draining, pushWaiters := [], popWaiters := [] } ∧
          t.log = u.log.appendAll ((s.queue q).popWaiters.map (fun w => queueLogEntry .drained w.requester w.tag q)) ∧
          ∀ w ∈ (s.queue q).popWaiters, s.answersHeld t w .decline .drained))

/-- R95, R97: STOP moves a queue to STOPPING, or to STOPPED when nothing of it is left, and releases its waiters. Nothing
is stalled at the port. -/
def Obligations.StopMovesTheQueue : Prop :=
  ∀ (s : State) (q : QueueId) (superseded : Bool), s.orders .stop q superseded → s.sys.arrivals = [] → WaiterLaw s →
    ((s.queue q).state = .stopped → exec .stop s = .next (s.clearOutputs.executed superseded .done [])) ∧
    ((s.queue q).state = .stopping → exec .stop s = .next (s.clearOutputs.executed superseded .accepted [])) ∧
    ((s.queue q).state = .running ∨ (s.queue q).state = .draining ∨ (s.queue q).state = .faulted →
      ∃ t, exec .stop s = .next t ∧
        ((t.entriesOf q ≠ [] ∨ (s.queue q).popEntries ≠ []) →
          t.queue q = { s.queue q with state := .stopping, faultReason := none, pushWaiters := [], popWaiters := [] } ∧
            t.link = (s.clearOutputs.executed superseded .accepted []).link) ∧
        ((t.entriesOf q = [] ∧ (s.queue q).popEntries = []) →
          t.queue q = (s.queue q).atStopped ∧ t.link = (s.clearOutputs.executed superseded .done []).link) ∧
        (∀ p, p ≠ q → (t.queue p).state = (s.queue p).state ∧ (t.queue p).config = (s.queue p).config ∧
          (t.queue p).commit = (s.queue p).commit ∧ (t.queue p).read = (s.queue p).read ∧
          (t.queue p).popEntries = (s.queue p).popEntries) ∧
        (∀ w, w ∈ (s.queue q).pushWaiters ∨ w ∈ (s.queue q).popWaiters → s.answersHeld t w .decline .state) ∧
        t.mem.passed = s.mem.passed ∧
        t.mem.waiting = s.mem.waiting.filter (fun r =>
          match r.owner with
          | .payload k _ => decide (k ≠ q)
          | _ => true))

/-- R42: what STOP makes of each reservation entry of the queue, by the entry's state. R41, R43 (case 1), R95, R174: an entry
left with every beat taken and no payload write outstanding is resolved at once: the log takes the STATE entries of the
released waiters and then the ABANDONED entries of the resolved ones, in the order of their grants, which is that of their
start positions (R20); and each producer is answered DECLINE (ABANDONED). The entries of a queue have different start
positions. -/
def Obligations.StopActsOnEachEntry : Prop :=
  ∀ (s : State) (q : QueueId) (superseded : Bool), s.orders .stop q superseded → s.sys.arrivals = [] → WaiterLaw s →
    ((s.entriesOf q).map (fun e => e.start)).Nodup → s.stoppable q →
    ∃ t, exec .stop s = .next t ∧ t.log = s.log.appendAll (s.stopLogEntries q) ∧
      (∀ e ∈ s.resolvedByStop q, s.writeReady e.requester e.tag → ⟨e.requester, e.tag, .decline, []⟩ ∈ t.sys.sent) ∧
      s.stopActedOn t q

/-- R67, R102, R113: FLUSH moves read to commit; with no pop entry outstanding release follows, and the push waiters are
re-examined. R80, R93: FLUSH of a DRAINING queue that owns no reservation entry answers every pop waiter DECLINE
(DRAINED), and the queue arrives at STOPPED when it has no pop entry. -/
def Obligations.FlushMovesReadToCommit : Prop :=
  (∀ (s : State) (q : QueueId) (superseded : Bool), s.orders .flush q superseded →
    ((s.queue q).state = .running ∨ (s.queue q).state = .faulted ∨
        ((s.queue q).state = .draining ∧ s.entriesOf q ≠ []) →
      ((s.queue q).popEntries ≠ [] →
        exec .flush s = .next ((s.clearOutputs.setQueue q { s.queue q with
          read := (s.queue q).commit
          noticeArmed := (s.queue q).noticeArmed || decide ((s.queue q).config.threshold ≠ 0) }).executed
            superseded .done [])) ∧
      ((s.queue q).popEntries = [] →
        exec .flush s = .next (((s.clearOutputs.setQueue q { s.queue q with
          read := (s.queue q).commit
          release := (s.queue q).commit
          noticeArmed := (s.queue q).noticeArmed || decide ((s.queue q).config.threshold ≠ 0) }).reexaminePush q).executed
            superseded .done []))) ∧
    ((s.queue q).state = .stopped ∨ (s.queue q).state = .stopping →
      exec .flush s = .next (s.clearOutputs.executed superseded .refusedState []))) ∧
  (∀ (s : State) (q : QueueId) (superseded : Bool), s.orders .flush q superseded → s.sys.arrivals = [] →
    (s.queue q).state = .draining → s.entriesOf q = [] → (s.queue q).pushWaiters = [] →
    ∃ t, exec .flush s = .next t ∧ (t.queue q).popWaiters = [] ∧
      ((s.queue q).popEntries = [] → (t.queue q).state = .stopped ∧ (t.queue q).read = 0 ∧ (t.queue q).commit = 0) ∧
      ((s.queue q).popEntries ≠ [] →
        t.queue q = { s.queue q with
          read := (s.queue q).commit
          noticeArmed := (s.queue q).noticeArmed || decide ((s.queue q).config.threshold ≠ 0)
          popWaiters := [] }) ∧
      t.log = s.log.appendAll ((s.queue q).popWaiters.map (fun w => queueLogEntry .drained w.requester w.tag q)) ∧
      (∀ w ∈ (s.queue q).popWaiters, s.answersHeld t w .decline .drained) ∧
      t.link = (s.clearOutputs.executed superseded .done []).link)

/-- R51, R101: CLEAR-FAULT returns the queue to its resume state and re-issues every FAILED entry as a FILLER. R101, R109,
R110: then the notice is checked, and its write issued where the check fires. R93, R97, R101: and a DRAINING queue that is
quiet with visible 0 arrives at STOPPED. No CLOSED entry stands at the commit position. -/
def Obligations.ClearFaultReissuesFailedEntries : Prop :=
  ∀ (s : State) (q : QueueId) (superseded : Bool), s.orders .clearFault q superseded →
    ((s.queue q).state ≠ .faulted →
      exec .clearFault s = .next (s.clearOutputs.executed superseded .refusedState [])) ∧
    ((s.queue q).state = .faulted → ((s.entriesOf q).map (fun e => e.start)).Nodup →
      (∀ e ∈ s.entriesOf q, e.start = (s.queue q).commit → e.state ≠ .closed) →
      let x := { s.queue q with
        state := (match (s.queue q).resume with | .running => .running | .draining => .draining)
        faultReason := none }
      let reissued := ((s.clearOutputs.setQueue q x).withReservations
          (s.reservations.map (fun e =>
            if e.queue = q ∧ e.state = .failed then { e with kind := .filler, lastBytes := 0, state := .sealing }
            else e))).presenting
          (((s.entriesOf q).filter (fun e => e.state = .failed)).map (fillerWrite (s.queue q).config))
      let fires := x.noticeArmed = true ∧ x.config.threshold ≠ 0 ∧ x.config.threshold ≤ x.visible ∧ x.notices.length < 2
      let drained := x.resume = .draining ∧ s.entriesOf q = [] ∧ x.popEntries = [] ∧ x.visible = 0
      (¬fires → ¬drained → exec .clearFault s = .next (reissued.executed superseded .done [])) ∧
      (fires → exec .clearFault s = .next (((reissued.setQueue q
        { x with noticeArmed := false, notices := x.notices ++ [noticeRecordOf x] }).presenting [noticeWrite q x]).executed
          superseded .done [])) ∧
      (drained → x.pushWaiters = [] → x.popWaiters = [] →
        exec .clearFault s = .next ((reissued.setQueue q x.atStopped).executed superseded .done [])))

/-- R103, R109, R110, R112: ARM-NOTICE arms the notice and checks the queue at once. -/
def Obligations.ArmNoticeChecksTheQueue : Prop :=
  ∀ (s : State) (q : QueueId) (superseded : Bool), s.orders .armNotice q superseded →
    ((s.queue q).state = .stopped → exec .armNotice s = .next (s.clearOutputs.executed superseded .refusedState [])) ∧
    ((s.queue q).state ≠ .stopped →
      ((s.queue q).config.threshold ≠ 0 ∧ (s.queue q).config.threshold ≤ (s.queue q).visible ∧
          (s.queue q).notices.length < 2 →
        exec .armNotice s = .next (((s.clearOutputs.setQueue q { s.queue q with
            noticeArmed := false
            notices := (s.queue q).notices ++ [noticeRecordOf (s.queue q)] }).presenting
          [noticeWrite q (s.queue q)]).executed superseded .done [])) ∧
      (¬((s.queue q).config.threshold ≠ 0 ∧ (s.queue q).config.threshold ≤ (s.queue q).visible ∧
          (s.queue q).notices.length < 2) →
        exec .armNotice s = .next
          ((s.clearOutputs.setQueue q { s.queue q with noticeArmed := true }).executed superseded .done [])))

/-! ### The system-side port -/

/-- R135, R149: while the oldest request not yet taken cannot be taken, it stays presented, and no request behind it is
taken, no arbiter run being put off (R37, log entry 8). R135, R150: and a response that frees its tag lets it be taken in the
same event. -/
def Obligations.StalledRequestWaitsForItsTag : Prop :=
  (∀ (s : State) (q first : Request), (s.sys.arrivals ++ [q]).head? = some first → s.arbiterDue = false →
    s.link.softReset = true ∨ 64 ≤ s.sys.tracker.length ∨
      (∃ x ∈ s.sys.tracker, x.request.requester = first.requester ∧ x.request.tag = first.tag) →
    exec (.takeRequest q) s =
      .next (s.clearOutputs.withSys { s.sys with arrivals := s.sys.arrivals ++ [q], sent := [] })) ∧
  (∀ (s : State) (x : Transaction) (a : Answer) (b : Beat) (q : Request),
    s.transaction q.requester q.tag = some x →
    x.beatMode = some .dropping → x.answer = some a → x.request.direction = .write →
    x.received + 1 = x.request.beats.val → s.sys.arrivals = [q] → s.link.softReset = false →
    s.sys.tracker.length ≤ 64 →
    exec (.writeBeat q.requester q.tag b) s =
      .next (((s.clearOutputs.respondedTo q.requester q.tag a.status a.data).withSys
        { (s.clearOutputs.respondedTo q.requester q.tag a.status a.data).sys with arrivals := [] }).take q))

/-- R136: the form checks. R124: a request that the decode refuses. R137, R138, R139: its beats and its answer. -/
def Obligations.RefusedRequestIsAnsweredAtOnce : Prop :=
  (∀ (s : State) (q : Request), s.takes q →
    (q.address.toNat % 8 ≠ 0 →
      exec (.takeRequest q) s =
        .next ((s.clearOutputs.turnedAway q .portRefused .decline .align).appendLog (addressLogEntry .align q))) ∧
    (q.address.toNat % 8 = 0 → 4096 < q.address.toNat % 4096 + 8 * q.beats.val →
      exec (.takeRequest q) s =
        .next ((s.clearOutputs.turnedAway q .portRefused .decline .boundary).appendLog (addressLogEntry .boundary q)))) ∧
  (∀ (s : State) (q : Request) (reason : Reason), s.takes q → wellPlaced q → s.decode q = .refused reason →
    exec (.takeRequest q) s =
      .next ((s.clearOutputs.turnedAway q (.refused reason) .decline reason).appendLog (addressLogEntry reason q)))

/-- R140, R141, R137: a request decoded to a memory access: a read is presented to the arbiter, a write gathers its beats.
-/
def Obligations.AccessIsCarriedToMemory : Prop :=
  ∀ (s : State) (q : Request) (m : Addr), s.takes q → wellPlaced q → s.decode q = .access m →
    (q.direction = .read →
      exec (.takeRequest q) s = .next ((s.clearOutputs.tracked q (.access m) none).presenting
        [⟨.passThrough q.requester q.tag, .read, m, q.beats.val, []⟩])) ∧
    (q.direction = .write → exec (.takeRequest q) s = .next (s.clearOutputs.tracked q (.access m) (some .gathering)))

/-- R120 to R123: the first window in order of entry number that is enabled, contains the address and applies to the class
decides the outcome; with none, the request is a memory access at its own address. -/
def Obligations.LowestApplicableWindowDecides : Prop :=
  (∀ (s : State) (q : Request) (i : WindowIndex),
    (let applies := fun (j : WindowIndex) => (s.windows[j]).enabled = true ∧
        (s.windows[j]).base.toNat ≤ q.address.toNat ∧ q.address.toNat ≤ (s.windows[j]).limit.toNat + 4095 ∧
        (s.windows[j]).classes.getLsbD (s.classOf q.requester).val = true
     applies i ∧ ∀ j, j < i → ¬applies j) →
    s.decode q = (match (s.windows[i]).kind, q.direction with
      | .pass, _ => s.guardAccess (s.classOf q.requester) q.address q.beats
      | .remap, _ => s.guardAccess (s.classOf q.requester)
          ((s.windows[i]).target + (q.address - (s.windows[i]).base)) q.beats
      | .push, .write => .push (s.windows[i]).queue
      | .push, .read => .refused .kind
      | .pop, .read => .pop (s.windows[i]).queue
      | .pop, .write => .refused .kind
      | .block, _ => .refused .blocked)) ∧
  (∀ (s : State) (q : Request),
    (∀ j : WindowIndex, ¬((s.windows[j]).enabled = true ∧ (s.windows[j]).base.toNat ≤ q.address.toNat ∧
      q.address.toNat ≤ (s.windows[j]).limit.toNat + 4095 ∧
      (s.windows[j]).classes.getLsbD (s.classOf q.requester).val = true)) →
    s.decode q = s.guardAccess (s.classOf q.requester) q.address q.beats)

/-- R125, R126: no access that a decode lets through shares a byte with the ring of a configured queue whose direct-access
classes do not hold the requester's class; and only such an access is refused with reason GUARD. -/
def Obligations.GuardKeepsAccessesOutOfTheRings : Prop :=
  ∀ (s : State) (c : RequesterClass) (m : Addr) (L : BurstLength),
    (s.guardAccess c m L = .access m ↔
      ¬∃ q, (s.queue q).config.ringSize ≠ 0 ∧ (s.queue q).config.directAccess.getLsbD c.val = false ∧
        ∃ a, m.toNat ≤ a ∧ a < m.toNat + 8 * L.val ∧ (s.queue q).config.ringByte a) ∧
    (s.guardAccess c m L = .refused .guard ↔
      ∃ q, (s.queue q).config.ringSize ≠ 0 ∧ (s.queue q).config.directAccess.getLsbD c.val = false ∧
        ∃ a, m.toNat ≤ a ∧ a < m.toNat + 8 * L.val ∧ (s.queue q).config.ringByte a)

/-- R137, R141: the beats of a pass-through write are stored, and the last one presents the write with every beat
unchanged. R137, R138: the beats of a write in DROPPING are dropped, and the last one sends the answer that was kept,
nothing being stalled at the port. R22: no beat of a held push is taken, and no beat beyond the L of a transaction. -/
def Obligations.BeatModeDecidesWhatABeatDoes : Prop :=
  (∀ (s : State) (r : Requester) (t : Tag) (b : Beat) (x : Transaction) (m : Addr),
    s.transaction r t = some x → x.request.direction = .write → x.beatMode = some .gathering → x.decoded = .access m →
    (x.received + 1 < x.request.beats.val →
      exec (.writeBeat r t b) s = .next (s.clearOutputs.setTransaction
        { x with received := x.received + 1, gathered := x.gathered ++ [b] })) ∧
    (x.received + 1 = x.request.beats.val →
      exec (.writeBeat r t b) s = .next ((s.clearOutputs.setTransaction
          { x with received := x.received + 1, gathered := [] }).presenting
        [⟨.passThrough r t, .write, m, x.gathered.length + 1, x.gathered ++ [b]⟩]))) ∧
  (∀ (s : State) (r : Requester) (t : Tag) (b : Beat) (x : Transaction) (a : Answer),
    s.transaction r t = some x → x.request.direction = .write → x.beatMode = some .dropping → x.answer = some a →
    (x.received + 1 < x.request.beats.val →
      exec (.writeBeat r t b) s = .next (s.clearOutputs.setTransaction { x with received := x.received + 1 })) ∧
    (x.received + 1 = x.request.beats.val → s.sys.arrivals = [] → s.link.softReset = false →
      exec (.writeBeat r t b) s = .next (s.clearOutputs.respondedTo r t a.status a.data))) ∧
  (∀ (s : State) (r : Requester) (t : Tag) (b : Beat) (x : Transaction),
    s.transaction r t = some x → x.beatMode = some .waiting ∨ x.received = x.request.beats.val →
    exec (.writeBeat r t b) s = .next s.clearOutputs)

/-! ### Decisions -/

/-- R21, R22, R71 (case 6): a push that fits is granted as it is taken. That the entry's last-word bytes stand at 0 until its
last beat is the model's choice (log entry 27). -/
def Obligations.PushThatFitsIsGranted : Prop :=
  ∀ (s : State) (r : Request) (q : QueueId), s.takes r → wellPlaced r → s.decode r = .push q →
    (s.queue q).state = .running → (s.queue q).pushWaiters = [] → 1 + r.beats.val ≤ (s.queue q).free →
    s.reservations.length < 48 →
    exec (.takeRequest r) s = .next (((s.clearOutputs.tracked r (.push q) (some .handing)).withReservations
      (s.reservations ++ [{
        queue := q
        requester := r.requester
        tag := r.tag
        start := (s.queue q).reserve
        words := r.beats
        sequence := (s.queue q).nextSequence
        beatsTaken := 0
        gathered := []
        lastBytes := 0
        writesOutstanding := 0
        kind := .data
        cause := none
        state := .filling }])).setQueue q { s.queue q with
          reserve := (s.queue q).reserve + BitVec.ofNat 32 (1 + r.beats.val)
          nextSequence := (s.queue q).nextSequence + 1 })

/-- R57, R58, R73 (case 6), R113: a pop that visible can satisfy is granted as it is taken, and its ring reads are
presented. -/
def Obligations.PopThatVisibleCanSatisfyIsGranted : Prop :=
  ∀ (s : State) (r : Request) (q : QueueId), s.takes r → wellPlaced r → s.decode r = .pop q →
    (s.queue q).config.ringSize ≠ 0 → (s.queue q).state = .running ∨ (s.queue q).state = .draining →
    (s.queue q).popWaiters = [] → r.beats.val ≤ (s.queue q).visible → (s.queue q).popEntries.length < 16 →
    ∃ reads : List MemRequest,
      reads = ((s.queue q).config.ringPieces (s.queue q).read r.beats.val).map (fun p =>
        ⟨.popRead q (s.queue q).read p.first, .read, p.address, p.words, []⟩) ∧
      exec (.takeRequest r) s = .next (((s.clearOutputs.tracked r (.pop q) none).setQueue q { s.queue q with
          read := (s.queue q).read + BitVec.ofNat 32 r.beats.val
          popEntries := (s.queue q).popEntries ++
            [⟨(s.queue q).read, r.beats, r.requester, r.tag, reads.length, false, List.replicate r.beats.val none⟩]
          noticeArmed := (s.queue q).noticeArmed || decide ((s.queue q).config.threshold ≠ 0 ∧
            (s.queue q).visible - r.beats.val < (s.queue q).config.threshold) }).presenting reads)

/-- R71 and R73 (cases 1 and 2), R74 (DRAINED), R75: a push or pop refused by its queue's state. -/
def Obligations.QueueStateRefusesPushesAndPops : Prop :=
  (∀ (s : State) (r : Request) (q : QueueId), s.takes r → wellPlaced r → s.decode r = .push q →
    ((s.queue q).config.ringSize = 0 ∨ (s.queue q).state = .stopped ∨ (s.queue q).state = .stopping ∨
        (s.queue q).state = .draining →
      exec (.takeRequest r) s = .next ((s.clearOutputs.turnedAway r (.push q) .decline .state).appendLog
        (queueLogEntry .state r.requester r.tag q))) ∧
    ((s.queue q).config.ringSize ≠ 0 → (s.queue q).state = .faulted →
      exec (.takeRequest r) s = .next ((s.clearOutputs.turnedAway r (.push q) .decline .faulted).appendLog
        (queueLogEntry .faulted r.requester r.tag q)))) ∧
  (∀ (s : State) (r : Request) (q : QueueId), s.takes r → wellPlaced r → s.decode r = .pop q →
    ((s.queue q).config.ringSize = 0 ∨ (s.queue q).state = .stopped ∨ (s.queue q).state = .stopping →
      exec (.takeRequest r) s = .next ((s.clearOutputs.turnedAway r (.pop q) .decline .state).appendLog
        (queueLogEntry .state r.requester r.tag q))) ∧
    ((s.queue q).config.ringSize ≠ 0 → (s.queue q).state = .faulted →
      exec (.takeRequest r) s = .next ((s.clearOutputs.turnedAway r (.pop q) .decline .faulted).appendLog
        (queueLogEntry .faulted r.requester r.tag q))) ∧
    ((s.queue q).config.ringSize ≠ 0 → (s.queue q).state = .draining → (s.queue q).popWaiters = [] →
        (s.queue q).visible < r.beats.val → s.entriesOf q = [] →
      exec (.takeRequest r) s = .next ((s.clearOutputs.turnedAway r (.pop q) .decline .drained).appendLog
        (queueLogEntry .drained r.requester r.tag q))))

/-- R71 and R73 (cases 3 and 5), R72 and R74 (HOLD), R76, R77, R81: a push or pop that waits joins the end of its list, or
is answered RETRY (NO-SLOT). -/
def Obligations.WaitingRequestJoinsItsList : Prop :=
  (∀ (s : State) (r : Request) (q : QueueId), s.takes r → wellPlaced r → s.decode r = .push q →
    (s.queue q).config.ringSize ≠ 0 → (s.queue q).state = .running →
    (s.queue q).pushWaiters ≠ [] ∨
      ((s.queue q).free < 1 + r.beats.val ∧ (s.queue q).config.fullPolicy = .hold) ∨
      (1 + r.beats.val ≤ (s.queue q).free ∧ 48 ≤ s.reservations.length) →
    (s.slotsInUse < 32 →
      exec (.takeRequest r) s = .next (((s.clearOutputs.tracked r (.push q) (some .waiting)).setQueue q
          { s.queue q with pushWaiters := (s.queue q).pushWaiters ++
              [⟨r.requester, r.tag, r.beats, s.hold.nextJoin, s.hold.clock + (s.queue q).config.holdLimit⟩] }).withHold
        { s.hold with nextJoin := s.hold.nextJoin + 1 })) ∧
    (32 ≤ s.slotsInUse →
      exec (.takeRequest r) s =
        .next ((s.clearOutputs.turnedAway r (.push q) .retry .noSlot).loggedRetry q r.requester r.tag .noSlot))) ∧
  (∀ (s : State) (r : Request) (q : QueueId), s.takes r → wellPlaced r → s.decode r = .pop q →
    (s.queue q).config.ringSize ≠ 0 → (s.queue q).state = .running ∨ (s.queue q).state = .draining →
    (s.queue q).popWaiters ≠ [] ∨
      ((s.queue q).visible < r.beats.val ∧ (s.queue q).config.emptyPolicy = .hold ∧
        ¬((s.queue q).state = .draining ∧ s.entriesOf q = [])) ∨
      (r.beats.val ≤ (s.queue q).visible ∧ 16 ≤ (s.queue q).popEntries.length) →
    (s.slotsInUse < 32 →
      exec (.takeRequest r) s = .next (((s.clearOutputs.tracked r (.pop q) none).setQueue q
          { s.queue q with popWaiters := (s.queue q).popWaiters ++
              [⟨r.requester, r.tag, r.beats, s.hold.nextJoin, s.hold.clock + (s.queue q).config.holdLimit⟩] }).withHold
        { s.hold with nextJoin := s.hold.nextJoin + 1 })) ∧
    (32 ≤ s.slotsInUse →
      exec (.takeRequest r) s =
        .next ((s.clearOutputs.turnedAway r (.pop q) .retry .noSlot).loggedRetry q r.requester r.tag .noSlot)))

/-- R72, R173: for a push on a full queue REFUSE answers RETRY (FULL). R72, R98, R174: LATCH answers the push DECLINE
(LATCHED), the queue enters FAULTED, and its pop waiters are released. R74, R98, R173: REFUSE and LATCH, in the same way,
for a pop that visible cannot satisfy, words being still to come. -/
def Obligations.FullAndEmptyQueuesMeetThePolicies : Prop :=
  (∀ (s : State) (r : Request) (q : QueueId), s.takes r → wellPlaced r → s.decode r = .push q →
    (s.queue q).config.ringSize ≠ 0 → (s.queue q).state = .running → (s.queue q).pushWaiters = [] →
    (s.queue q).free < 1 + r.beats.val → (s.queue q).config.fullPolicy = .refuse →
    exec (.takeRequest r) s =
      .next ((s.clearOutputs.turnedAway r (.push q) .retry .full).loggedRetry q r.requester r.tag .full)) ∧
  (∀ (s : State) (r : Request) (q : QueueId), s.takes r → wellPlaced r → s.decode r = .push q →
    (s.queue q).config.ringSize ≠ 0 → (s.queue q).state = .running → (s.queue q).pushWaiters = [] →
    (s.queue q).free < 1 + r.beats.val → (s.queue q).config.fullPolicy = .latch →
    ∃ t, exec (.takeRequest r) s = .next t ∧
      t.queue q = { s.queue q with
        state := .faulted
        faultReason := some .fullLatch
        resume := .running
        popWaiters := [] } ∧
      (∀ p, p ≠ q → t.queue p = s.queue p) ∧ t.reservations = s.reservations ∧ t.mem = { s.mem with handed := [] } ∧
      t.log = s.log.appendAll ([queueLogEntry .latched r.requester r.tag q,
          { reason := .queueFaulted, queue := some q, words := some (.fault .fullLatch) }] ++
        (s.queue q).popWaiters.map (fun w => queueLogEntry .faulted w.requester w.tag q)) ∧
      ⟨r, .push q, some .dropping, 0, [], some ⟨.decline, some .latched, []⟩⟩ ∈ t.sys.tracker ∧
      (∀ w ∈ (s.queue q).popWaiters, s.answersHeld t w .decline .faulted) ∧ t.attentionLine = true) ∧
  (∀ (s : State) (r : Request) (q : QueueId), s.takes r → wellPlaced r → s.decode r = .pop q →
    (s.queue q).config.ringSize ≠ 0 →
    (s.queue q).state = .running ∨ ((s.queue q).state = .draining ∧ s.entriesOf q ≠ []) →
    (s.queue q).popWaiters = [] → (s.queue q).visible < r.beats.val →
    ((s.queue q).config.emptyPolicy = .refuse →
      exec (.takeRequest r) s =
        .next ((s.clearOutputs.turnedAway r (.pop q) .retry .empty).loggedRetry q r.requester r.tag .empty)) ∧
    ((s.queue q).config.emptyPolicy = .latch →
      ∃ t, exec (.takeRequest r) s = .next t ∧
        t.queue q = { s.queue q with
          state := .faulted
          faultReason := some .emptyLatch
          resume := (if (s.queue q).state = .draining then .draining else .running)
          pushWaiters := [] } ∧
        (∀ p, p ≠ q → t.queue p = s.queue p) ∧ t.reservations = s.reservations ∧ t.mem = { s.mem with handed := [] } ∧
        t.log = s.log.appendAll ([queueLogEntry .latched r.requester r.tag q,
            { reason := .queueFaulted, queue := some q, words := some (.fault .emptyLatch) }] ++
          (s.queue q).pushWaiters.map (fun w => queueLogEntry .faulted w.requester w.tag q)) ∧
        ⟨r.requester, r.tag, .decline, List.replicate r.beats.val (BitVec.allOnes 64)⟩ ∈ t.sys.sent ∧
        (∀ w ∈ (s.queue q).pushWaiters, s.answersHeld t w .decline .faulted) ∧ t.attentionLine = true))

/-! ### Records -/

/-- R23: a beat of a granted push, not poisoned, becomes the next gathered word, with the bytes of the lanes that are not
enabled zero. R24, R26, R9: the last one records the number of its enabled lanes, moves the entry to WRITING and issues
its payload writes, which carry the gathered words. R25, R40: a poisoned beat that is not the last moves the entry to
DISCARDING; a beat of a DISCARDING entry that does not make it ready is counted and dropped, and no memory request is
issued. -/
def Obligations.BeatsBecomeThePayload : Prop :=
  (∀ (s : State) (r : Requester) (t : Tag) (b : Beat) (x : Transaction) (e : Entry),
    s.transaction r t = some x → x.beatMode = some .handing → x.received < x.request.beats.val →
    s.fillingEntry r t = some e → e.state = .filling → b.poison = false → e.beatsTaken + 1 ≠ e.words.val →
    ∃ w : Word,
      (∀ i : Fin 8, w.extractLsb' (8 * i.val) 8 = if b.lanes.getLsbD i.val then b.data.extractLsb' (8 * i.val) 8 else 0) ∧
      exec (.writeBeat r t b) s = .next
        ((s.clearOutputs.setTransaction { x with received := x.received + 1 }).setEntry
          { e with gathered := e.gathered ++ [w], beatsTaken := e.beatsTaken + 1 })) ∧
  (∀ (s : State) (r : Requester) (t : Tag) (b : Beat) (x : Transaction) (e : Entry),
    s.transaction r t = some x → x.beatMode = some .handing → x.received < x.request.beats.val →
    s.fillingEntry r t = some e → e.state = .filling → b.poison = false → e.beatsTaken + 1 = e.words.val →
    ∃ (w : Word) (writes : List MemRequest),
      (∀ i : Fin 8, w.extractLsb' (8 * i.val) 8 = if b.lanes.getLsbD i.val then b.data.extractLsb' (8 * i.val) 8 else 0) ∧
      writes = ((s.queue e.queue).config.ringPieces (e.start + 1) e.words.val).map (fun p =>
        ⟨.payload e.queue e.start, .write, p.address, ((((e.gathered ++ [w]).drop p.first).take p.words)).length,
          (((e.gathered ++ [w]).drop p.first).take p.words).map (fun d => ⟨d, 0xFF, false⟩)⟩) ∧
      exec (.writeBeat r t b) s = .next
        (((s.clearOutputs.setTransaction { x with received := x.received + 1 }).setEntry
          { e with
            state := .writing
            lastBytes := (List.range 8).countP (fun i => b.lanes.getLsbD i)
            writesOutstanding := writes.length
            gathered := []
            beatsTaken := e.beatsTaken + 1 }).presenting writes)) ∧
  (∀ (s : State) (r : Requester) (t : Tag) (b : Beat) (x : Transaction) (e : Entry),
    s.transaction r t = some x → x.beatMode = some .handing → x.received < x.request.beats.val →
    s.fillingEntry r t = some e →
    (e.state = .filling → b.poison = true → e.cause = none → e.beatsTaken + 1 ≠ e.words.val →
      exec (.writeBeat r t b) s = .next
        ((s.clearOutputs.setTransaction { x with received := x.received + 1 }).setEntry
          { e with state := .discarding, cause := some .poison, gathered := [], beatsTaken := e.beatsTaken + 1 })) ∧
    (e.state = .discarding → e.beatsTaken + 1 ≠ e.words.val ∨ e.writesOutstanding ≠ 0 →
      exec (.writeBeat r t b) s = .next
        ((s.clearOutputs.setTransaction { x with received := x.received + 1 }).setEntry
          { e with beatsTaken := e.beatsTaken + 1 })))

/-- The last beat of an abandoned record, or a last beat that is itself poisoned (R25, R40, R41), makes it ready, and its
producer is answered DECLINE (ABANDONED). R43 (case 3), R47, R138, R172: a record that is not the youngest becomes a FILLER. R43
(case 2), R44: the youngest gives back its space and its sequence number, no push waiting. R45, R93, R97: with it the last entry
of a DRAINING queue goes, and the queue, no pop waiting, arrives at STOPPED when it has no pop entry and visible is 0. R45, R79,
R80: what a rewind starts where pushes wait, or pops wait for the last entry of a DRAINING queue (no push waits for that queue,
and the next command is no TAKE_REQUEST, R37). R43 (case 1), R96, R97: in STOPPING the entry is freed, and the queue arrives at
STOPPED when nothing of it is left, no push waiting. -/
def Obligations.ReadyRecordIsResolved : Prop :=
  ∀ (s : State) (r : Requester) (t : Tag) (b : Beat) (x : Transaction) (e : Entry),
    s.transaction r t = some x → x.request.direction = .write → x.beatMode = some .handing → x.answer = none →
    x.received + 1 = x.request.beats.val → s.fillingEntry r t = some e →
    e.state = .discarding ∨ (e.state = .filling ∧ b.poison = true) →
    e.beatsTaken + 1 = e.words.val → e.writesOutstanding = 0 → s.sys.arrivals = [] → s.link.softReset = false →
    let e' := if e.state = .filling then
        { e with
          beatsTaken := e.beatsTaken + 1
          gathered := []
          cause := some (e.cause.getD .poison) }
      else { e with beatsTaken := e.beatsTaken + 1 }
    let answered := (s.clearOutputs.respondedTo r t .decline []).appendLog (abandonedLogEntry e e'.cause)
    ((s.queue e.queue).state ≠ .stopping → e.start + BitVec.ofNat 32 (1 + e.words.val) ≠ (s.queue e.queue).reserve →
      exec (.writeBeat r t b) s = .next ((answered.setEntry
        { e' with kind := .filler, lastBytes := 0, state := .sealing }).presenting
          [fillerWrite (s.queue e.queue).config e])) ∧
    ((s.queue e.queue).state ≠ .stopping → ((s.queue e.queue).state = .draining → (s.queue e.queue).popWaiters = []) →
      e.start + BitVec.ofNat 32 (1 + e.words.val) = (s.queue e.queue).reserve → (∀ q, (s.queue q).pushWaiters = []) →
      (∀ k ∈ s.entriesOf e.queue, k.start = (s.queue e.queue).commit → k.start = e.start ∨ k.state ≠ .closed) →
      (¬s.endsWith e.queue e.start → exec (.writeBeat r t b) s = .next ((answered.entryGone e.queue e.start).setQueue e.queue
        { s.queue e.queue with reserve := e.start, nextSequence := e.sequence })) ∧
      (s.endsWith e.queue e.start → exec (.writeBeat r t b) s = .next
        ((answered.entryGone e.queue e.start).setQueue e.queue (s.queue e.queue).atStopped))) ∧
    ((s.queue e.queue).state ≠ .stopping → ((s.queue e.queue).state = .draining → (s.queue e.queue).pushWaiters = []) →
      e.start + BitVec.ofNat 32 (1 + e.words.val) = (s.queue e.queue).reserve → s.noRequestNext →
      (∀ k ∈ s.entriesOf e.queue, k.start = (s.queue e.queue).commit → k.start = e.start ∨ k.state ≠ .closed) →
      ∃ u, exec (.writeBeat r t b) s = .next u ∧
        State.afterRewind ((answered.entryGone e.queue e.start).setQueue e.queue
          { s.queue e.queue with reserve := e.start, nextSequence := e.sequence }) u e.queue
          ((s.queue e.queue).state = .draining ∧ s.onlyEntryAt e.queue e.start)) ∧
    ((s.queue e.queue).state = .stopping → (∀ q, (s.queue q).pushWaiters = []) → (s.queue e.queue).popWaiters = [] →
      (¬(s.onlyEntryAt e.queue e.start ∧ (s.queue e.queue).popEntries = []) →
        exec (.writeBeat r t b) s = .next (answered.entryGone e.queue e.start)) ∧
      (s.onlyEntryAt e.queue e.start → (s.queue e.queue).popEntries = [] →
        exec (.writeBeat r t b) s = .next
          ((answered.entryGone e.queue e.start).setQueue e.queue (s.queue e.queue).atStopped)))

/-- R27: a payload write completes OK while another is outstanding, or as the last of a record without a cause, whose
header write is then issued (R30). R28, R39: a payload write completes ERROR while another is outstanding. R41: a payload
write completion of a DISCARDING entry lowers its count whatever the status, and does no more while the entry is not
ready. -/
def Obligations.PayloadWriteCompletionIsCounted : Prop :=
  (∀ (s : State) (n : Nat) (r : MemRequest) (q : QueueId) (p : Position) (e : Entry), s.awaits n r →
    r.owner = .payload q p → s.entryAt q p = some e → e.state = .writing → s.link.softReset = false →
    (e.writesOutstanding = 2 →
      exec (.payloadWriteOk n) s =
        .next ((s.clearOutputs.numberFreed n).setEntry { e with writesOutstanding := 1 })) ∧
    (e.writesOutstanding = 1 → e.cause = none → e.kind = .data →
      exec (.payloadWriteOk n) s =
        .next (((s.clearOutputs.numberFreed n).setEntry { e with writesOutstanding := 0, state := .sealing }).presenting
          [dataHeaderWrite (s.queue q).config e]))) ∧
  (∀ (s : State) (n : Nat) (r : MemRequest) (q : QueueId) (p : Position) (e : Entry), s.awaits n r →
    r.owner = .payload q p → s.entryAt q p = some e → e.state = .writing → e.writesOutstanding = 2 →
    s.link.softReset = false →
    exec (.payloadWriteError n) s = .next ((s.clearOutputs.numberFreed n).setEntry
      { e with writesOutstanding := 1, cause := some (e.cause.getD .payloadError) })) ∧
  (∀ (s : State) (n : Nat) (r : MemRequest) (q : QueueId) (p : Position) (e : Entry), s.awaits n r →
    r.owner = .payload q p → s.entryAt q p = some e → e.state = .discarding →
    e.beatsTaken ≠ e.words.val ∨ e.writesOutstanding = 2 → s.link.softReset = false →
    exec (.payloadWriteOk n) s = .next ((s.clearOutputs.numberFreed n).setEntry
        { e with writesOutstanding := e.writesOutstanding - 1 }) ∧
      exec (.payloadWriteError n) s = .next ((s.clearOutputs.numberFreed n).setEntry
        { e with writesOutstanding := e.writesOutstanding - 1 }))

/-- R28, R43: the last payload write of a record that has failed, in either order of its halves: the record is abandoned. R47:
it becomes a FILLER when it is not the youngest. R44: the youngest is rewound, no push waiting. R45, R93, R97: with it the last
entry of a DRAINING queue goes, and the queue, no pop waiting, arrives at STOPPED when it has no pop entry and visible is 0.
R45, R79, R80: what a rewind starts where pushes wait, or pops wait for the last entry of a DRAINING queue (no push waits for
that queue, and the next command is no TAKE_REQUEST, R37). R41, R43 (case 1), R96, R97: the last payload write of an entry that
STOP abandoned frees it, whatever the status, and the queue arrives at STOPPED when nothing of it is left. Nothing is stalled at
the port. -/
def Obligations.FailedPayloadEndsInAFiller : Prop :=
  ∀ (s : State) (n : Nat) (r : MemRequest) (q : QueueId) (p : Position) (e : Entry), s.awaits n r →
    r.owner = .payload q p → s.entryAt q p = some e → e.writesOutstanding = 1 → e.beatsTaken = e.words.val →
    s.writeReady e.requester e.tag → s.sys.arrivals = [] → s.link.softReset = false →
    let answered := fun (cause : Option AbandonCause) =>
      ((s.clearOutputs.numberFreed n).respondedTo e.requester e.tag .decline []).appendLog (abandonedLogEntry e cause)
    let filler := fun (cause : AbandonCause) => ((answered (some cause)).setEntry
        { e with
          writesOutstanding := 0, cause := some cause, kind := .filler, lastBytes := 0, state := .sealing }).presenting
        [fillerWrite (s.queue q).config e]
    let rewound := fun (cause : AbandonCause) => ((answered (some cause)).entryGone q p).setQueue q
      { s.queue q with reserve := e.start, nextSequence := e.sequence }
    let ended := fun (cause : AbandonCause) => ((answered (some cause)).entryGone q p).setQueue q (s.queue q).atStopped
    (e.state = .writing → (s.queue q).state ≠ .stopping →
      e.start + BitVec.ofNat 32 (1 + e.words.val) ≠ (s.queue q).reserve →
      exec (.payloadWriteError n) s = .next (filler (e.cause.getD .payloadError)) ∧
        ∀ cause, e.cause = some cause → exec (.payloadWriteOk n) s = .next (filler cause)) ∧
    (e.state = .writing → (s.queue q).state ≠ .stopping → ((s.queue q).state = .draining → (s.queue q).popWaiters = []) →
      e.start + BitVec.ofNat 32 (1 + e.words.val) = (s.queue q).reserve → (∀ k, (s.queue k).pushWaiters = []) →
      (∀ k ∈ s.entriesOf q, k.start = (s.queue q).commit → k.start = p ∨ k.state ≠ .closed) →
      (¬s.endsWith q p → exec (.payloadWriteError n) s = .next (rewound (e.cause.getD .payloadError)) ∧
        ∀ cause, e.cause = some cause → exec (.payloadWriteOk n) s = .next (rewound cause)) ∧
      (s.endsWith q p → exec (.payloadWriteError n) s = .next (ended (e.cause.getD .payloadError)) ∧
        ∀ cause, e.cause = some cause → exec (.payloadWriteOk n) s = .next (ended cause))) ∧
    (e.state = .writing → (s.queue q).state ≠ .stopping → ((s.queue q).state = .draining → (s.queue q).pushWaiters = []) →
      e.start + BitVec.ofNat 32 (1 + e.words.val) = (s.queue q).reserve → s.noRequestNext →
      (∀ k ∈ s.entriesOf q, k.start = (s.queue q).commit → k.start = p ∨ k.state ≠ .closed) →
      let last := (s.queue q).state = .draining ∧ s.onlyEntryAt q p
      (∃ u, exec (.payloadWriteError n) s = .next u ∧ (rewound (e.cause.getD .payloadError)).afterRewind u q last) ∧
        ∀ cause, e.cause = some cause → ∃ u, exec (.payloadWriteOk n) s = .next u ∧ (rewound cause).afterRewind u q last) ∧
    (e.state = .discarding → (s.queue q).state = .stopping → (∀ k, (s.queue k).pushWaiters = []) →
      (s.queue q).popWaiters = [] →
      ∀ c, c = Instr.payloadWriteOk n ∨ c = Instr.payloadWriteError n →
        (¬(s.onlyEntryAt q p ∧ (s.queue q).popEntries = []) →
          exec c s = .next ((answered e.cause).entryGone q p)) ∧
        (s.onlyEntryAt q p → (s.queue q).popEntries = [] →
          exec c s = .next (((answered e.cause).entryGone q p).setQueue q (s.queue q).atStopped)))

/-- R31, R33: a header write completes OK while an older entry holds the commit position: the entry is CLOSED, a DATA
producer is answered OK, and nothing is committed. R33, R35: for the oldest entry, DATA or FILLER, the next not being CLOSED,
commit passes the record and its entry is freed; and then, in order: the notice check, which may issue the notice write; the
head of the Pop Waiter list, which is granted, or in DRAINING with no entry left answered DECLINE (DRAINED), or stays; and
the arbiter, which hands the freed entry to a push waiter that fits (the next command being no TAKE_REQUEST, R37). R33, R35: and
in general the oldest entry and every CLOSED entry behind it are passed, the check sees visible as the advance left it and fires
whatever pop waits, and the re-examination and the arbiter follow. -/
def Obligations.HeaderWriteOkClosesAndCommits : Prop :=
  (∀ (s : State) (n : Nat) (r : MemRequest) (q : QueueId) (p : Position) (e : Entry), s.awaits n r →
    r.owner = .header q p → s.entryAt q p = some e → e.state = .sealing → (s.queue q).state ≠ .stopping →
    p ≠ (s.queue q).commit → (∀ k ∈ s.entriesOf q, k.start = (s.queue q).commit → k.state ≠ .closed) →
    s.sys.arrivals = [] → s.link.softReset = false →
    (e.kind = .filler →
      exec (.headerWriteOk n) s = .next ((s.clearOutputs.numberFreed n).setEntry { e with state := .closed })) ∧
    (e.kind = .data → s.writeReady e.requester e.tag →
      exec (.headerWriteOk n) s =
        .next (((s.clearOutputs.numberFreed n).setEntry { e with state := .closed }).respondedTo e.requester e.tag .ok []))) ∧
  (∀ (s : State) (n : Nat) (r : MemRequest) (q : QueueId) (p : Position) (e : Entry), s.awaits n r →
    r.owner = .header q p → s.entryAt q p = some e → e.state = .sealing → (s.queue q).state ≠ .stopping →
    p = (s.queue q).commit → (e.kind = .data → s.writeReady e.requester e.tag) →
    (∀ k ∈ s.entriesOf q, k.start = e.start + BitVec.ofNat 32 (1 + e.words.val) → k.state ≠ .closed) →
    s.sys.arrivals = [] → s.link.softReset = false →
    let x := { s.queue q with commit := e.start + BitVec.ofNat 32 (1 + e.words.val) }
    let freed := ((s.clearOutputs.numberFreed n).entryGone q p).setQueue q x
    let u := if e.kind = .data then freed.respondedTo e.requester e.tag .ok [] else freed
    let fires := x.noticeArmed = true ∧ x.config.threshold ≠ 0 ∧ x.config.threshold ≤ x.visible ∧ x.notices.length < 2
    0 < x.visible →
    ((∀ k, (s.queue k).pushWaiters = []) → x.popWaiters = [] →
      (¬fires → exec (.headerWriteOk n) s = .next u) ∧
      (fires → exec (.headerWriteOk n) s = .next ((u.setQueue q
        { x with noticeArmed := false, notices := x.notices ++ [noticeRecordOf x] }).presenting [noticeWrite q x]))) ∧
    (∀ w ws, (∀ k, (s.queue k).pushWaiters = []) → x.popWaiters = w :: ws → ¬fires →
      x.state = .running ∨ x.state = .draining →
      (ws = [] → w.length.val ≤ x.visible → x.popEntries.length < 16 →
        exec (.headerWriteOk n) s =
          .next ((u.setQueue q { x with popWaiters := [] }).grantPop q w.requester w.tag w.length)) ∧
      (x.visible < w.length.val → ¬(x.state = .draining ∧ s.onlyEntryAt q p) →
        exec (.headerWriteOk n) s = .next u) ∧
      (ws = [] → x.visible < w.length.val → x.state = .draining → s.onlyEntryAt q p →
        ∃ t, exec (.headerWriteOk n) s = .next t ∧ t.queue q = { x with popWaiters := [] } ∧
          t.log = s.log.append (queueLogEntry .drained w.requester w.tag q) ∧ s.answersHeld t w .decline .drained)) ∧
    (∀ k w, (s.queue k).pushWaiters = [w] → (∀ j, j ≠ k → (s.queue j).pushWaiters = []) →
      1 + w.length.val ≤ (s.queue k).free → x.popWaiters = [] → ¬fires → s.reservations.length ≤ 48 →
      (∀ a rest, s.pending ≠ .takeRequest a :: rest) →
      exec (.headerWriteOk n) s = .next ((u.setQueue k { u.queue k with pushWaiters := [] }).grantPush k
        w.requester w.tag w.length))) ∧
  (∀ (s : State) (n : Nat) (r : MemRequest) (q : QueueId) (p : Position) (e : Entry), s.awaits n r →
    r.owner = .header q p → s.entryAt q p = some e → e.state = .sealing → (s.queue q).state ≠ .stopping →
    p = (s.queue q).commit → (e.kind = .data → s.writeReady e.requester e.tag) → s.sys.arrivals = [] →
    s.link.softReset = false → s.noRequestNext →
    let closed := (s.clearOutputs.numberFreed n).setEntry { e with state := .closed }
    let answered := if e.kind = .data then closed.respondedTo e.requester e.tag .ok [] else closed
    let passed := answered.passClosed q s.reservations.length
    let x := passed.queue q
    let checked := if x.noticeArmed = true ∧ x.config.threshold ≠ 0 ∧ x.config.threshold ≤ x.visible ∧ x.notices.length < 2
      then (passed.setQueue q { x with noticeArmed := false, notices := x.notices ++ [noticeRecordOf x] }).presenting
        [noticeWrite q x]
      else passed
    0 < x.visible → exec (.headerWriteOk n) s = .next (checked.reexaminePop q).arbitrate)

/-- R32, R49: a header write completes in STOPPING: the entry, DATA or FILLER, is freed without commit and without a fault.
R96, R97: the queue arrives at STOPPED when nothing of it is left. No request waits. -/
def Obligations.HeaderWriteInStoppingFreesTheEntry : Prop :=
  ∀ (s : State) (n : Nat) (r : MemRequest) (q : QueueId) (p : Position) (e : Entry), s.awaits n r →
    r.owner = .header q p → s.entryAt q p = some e → e.state = .sealing →
    (s.queue q).state = .stopping → (∀ k, (s.queue k).pushWaiters = []) → (s.queue q).popWaiters = [] →
    s.sys.arrivals = [] → s.link.softReset = false →
    ∃ u, (¬(s.onlyEntryAt q p ∧ (s.queue q).popEntries = []) → u = (s.clearOutputs.numberFreed n).entryGone q p) ∧
      (s.onlyEntryAt q p → (s.queue q).popEntries = [] →
        u = ((s.clearOutputs.numberFreed n).entryGone q p).setQueue q (s.queue q).atStopped) ∧
      (e.kind = .filler → exec (.headerWriteOk n) s = .next u ∧
        exec (.headerWriteError n) s = .next (u.appendLog (headerWriteLogEntry e))) ∧
      (e.kind = .data → s.writeReady e.requester e.tag →
        exec (.headerWriteOk n) s = .next (u.respondedTo e.requester e.tag .ok []) ∧
          exec (.headerWriteError n) s =
            .next ((u.respondedTo e.requester e.tag .decline []).appendLog (headerWriteLogEntry e)))

/-- R48, R98, R174: a header write completes ERROR outside STOPPING: the entry is FAILED, a DATA producer is answered DECLINE
(HEADER-WRITE), and a queue in RUNNING or DRAINING enters FAULTED and answers its waiters DECLINE (FAULTED). Nothing is
stalled at the port. -/
def Obligations.HeaderWriteErrorFaultsTheQueue : Prop :=
  ∀ (s : State) (n : Nat) (r : MemRequest) (q : QueueId) (p : Position) (e : Entry), s.awaits n r →
    r.owner = .header q p → s.entryAt q p = some e → e.state = .sealing → s.sys.arrivals = [] →
    s.link.softReset = false →
    ((s.queue q).state = .running ∨ (s.queue q).state = .draining →
      ∃ t, exec (.headerWriteError n) s = .next t ∧
        t.reservations = s.reservations.map (fun y =>
          if y.queue = q ∧ y.start = p then { e with state := .failed } else y) ∧
        t.queue q = { s.queue q with
          state := .faulted
          faultReason := some .headerWrite
          resume := (if (s.queue q).state = .draining then .draining else .running)
          pushWaiters := []
          popWaiters := [] } ∧
        (∀ k, k ≠ q → t.queue k = s.queue k) ∧ t.mem.waiting = s.mem.waiting ∧
        t.mem.passed = (s.numberFreed n).mem.passed ∧ t.attentionLine = true ∧
        t.log = s.log.appendAll ([headerWriteLogEntry e,
            { reason := .queueFaulted, queue := some q, words := some (.fault .headerWrite) }] ++
          ((s.queue q).pushWaiters ++ (s.queue q).popWaiters).map
            (fun w => queueLogEntry .faulted w.requester w.tag q)) ∧
        (e.kind = .data → s.writeReady e.requester e.tag → ⟨e.requester, e.tag, .decline, []⟩ ∈ t.sys.sent) ∧
        (∀ w, w ∈ (s.queue q).pushWaiters ∨ w ∈ (s.queue q).popWaiters →
          ¬(w.requester = e.requester ∧ w.tag = e.tag) → s.answersHeld t w .decline .faulted)) ∧
    ((s.queue q).state = .faulted →
      ∃ t, exec (.headerWriteError n) s = .next t ∧
        t.reservations = s.reservations.map (fun y =>
          if y.queue = q ∧ y.start = p then { e with state := .failed } else y) ∧
        t.queues = s.queues ∧ t.mem.waiting = s.mem.waiting ∧ t.mem.passed = (s.numberFreed n).mem.passed ∧
        t.log = s.log.append (headerWriteLogEntry e) ∧
        (e.kind = .data → s.writeReady e.requester e.tag → ⟨e.requester, e.tag, .decline, []⟩ ∈ t.sys.sent))

/-- R33, R34: a commit advance passes exactly the CLOSED entries at the commit end of a tiling, frees them, and leaves
every other entry and every other queue as they were. -/
def Obligations.CommitAdvancePassesTheClosedPrefix : Prop :=
  ∀ (s : State) (q : QueueId) (n : Sequence) (closed rest : List Entry),
    tiles (s.queue q).reserve (s.queue q).nextSequence (s.entriesOf q) (s.queue q).commit n →
    ((s.entriesOf q).map (fun e => recordWords e.words)).sum ≤ 2097152 → s.entriesOf q = closed ++ rest →
    (∀ e ∈ closed, e.state = .closed) → (∀ e, rest.head? = some e → e.state ≠ .closed) →
    (s.passClosed q s.reservations.length).entriesOf q = rest ∧
      (∀ p, p ≠ q → (s.passClosed q s.reservations.length).entriesOf p = s.entriesOf p ∧
        (s.passClosed q s.reservations.length).queue p = s.queue p) ∧
      (s.passClosed q s.reservations.length).queue q = { s.queue q with
        commit := (s.queue q).commit + BitVec.ofNat 32 ((closed.map (fun e => recordWords e.words)).sum) }

/-- R36: the arbiter stops only when no entry is free or no head is eligible; it takes no entry beyond the 48, and moves
no position but reserve; while an entry is free it grants, among the eligible heads, the one that joined its list earliest, and
goes on with the next. R37: the arbiter's run for a freed entry may be put off only where the next command is a TAKE_REQUEST;
that command's decision then comes first and the arbiter after it, so that a new push that fits takes the one free entry and the
waiting heads stay as they were (which order is taken is a free value, and the putting off is the model's choice, log entry 8).
-/
def Obligations.ArbiterLeavesNoEligibleHead : Prop :=
  (∀ s : State, s.reservations.length ≤ 48 →
    (s.arbitrate.reservations.length = 48 ∨ ∀ q, s.arbitrate.eligibleHead q = none) ∧
    (∃ granted, s.arbitrate.reservations = s.reservations ++ granted ∧ s.arbitrate.reservations.length ≤ 48) ∧
    (∀ q, (s.arbitrate.queue q).release = (s.queue q).release ∧ (s.arbitrate.queue q).read = (s.queue q).read ∧
      (s.arbitrate.queue q).commit = (s.queue q).commit ∧ (s.arbitrate.queue q).state = (s.queue q).state ∧
      (s.arbitrate.queue q).popWaiters = (s.queue q).popWaiters ∧
      ∃ gone, (s.queue q).pushWaiters = gone ++ (s.arbitrate.queue q).pushWaiters)) ∧
  (∀ (s : State) (q : QueueId) (w : Waiter), s.earliestEligible = some (q, w) →
    (∃ ws, (s.queue q).pushWaiters = w :: ws) ∧ 1 + w.length.val ≤ (s.queue q).free ∧
      ∀ p v, s.eligibleHead p = some v → w.joinOrder ≤ v.joinOrder) ∧
  (∀ s : State, ((∃ q, s.eligibleHead q ≠ none) → s.earliestEligible ≠ none) ∧
    (∀ q w, s.reservations.length < 48 → s.earliestEligible = some (q, w) →
      s.arbitrate = (s.grantHead q w).arbitrate ∧
      s.grantHead q w = (s.setQueue q { s.queue q with pushWaiters := (s.queue q).pushWaiters.tail }).grantPush q
        w.requester w.tag w.length) ∧
    (48 ≤ s.reservations.length ∨ (∀ q, s.eligibleHead q = none) → s.arbitrate = s)) ∧
  (∀ s : State, (∀ k, (s.queue k).pushWaiters = []) ∨ s.sys.arrivals = [] →
    (s.entryFreed = s ∨ s.entryFreed = s.arbitrate ∨ s.entryFreed = s.useFree.arbitrate ∨
      s.entryFreed = s.useFree.withArbiterDue true) ∧
    ((∀ a rest, s.pending ≠ .takeRequest a :: rest) →
      s.entryFreed = (if ∀ k, (s.queue k).pushWaiters = [] then s else s.arbitrate))) ∧
  (∀ (s : State) (r : Request), s.arbiterDue = true → ∃ t, exec (.takeRequest r) (s.withArbiterDue false) = .next t ∧
    exec (.takeRequest r) s = .next t.arbitrate) ∧
  (∀ (s : State) (r : Request) (q : QueueId), s.arbiterDue = true → (s.withArbiterDue false).takes r → wellPlaced r →
    s.decode r = .push q → (s.queue q).state = .running → (s.queue q).pushWaiters = [] →
    1 + r.beats.val ≤ (s.queue q).free → s.reservations.length = 47 →
    ∃ t e, exec (.takeRequest r) s = .next t ∧ t.reservations = s.reservations ++ [e] ∧ e.queue = q ∧
      e.requester = r.requester ∧ e.tag = r.tag ∧ e.start = (s.queue q).reserve ∧ t.arbiterDue = false ∧
      ∀ k, (t.queue k).pushWaiters = (s.queue k).pushWaiters)

/-- R78: re-examination of a Push Waiter list grants each head that fits, from the first on, and stops at the first head that
does not fit or finds no entry free. R80: that of a Pop Waiter list grants each head that visible can satisfy, answers DECLINE
(DRAINED) each that it cannot when no further word can come, and stops only at a head that it can neither grant nor answer. -/
def Obligations.ReexaminationStopsAtAHeadThatMustStay : Prop :=
  (∀ (s : State) (q : QueueId),
    ∃ gone, (s.queue q).pushWaiters = gone ++ ((s.reexaminePush q).queue q).pushWaiters ∧
      (s.reexaminePush q).reservations.length = s.reservations.length + gone.length ∧
      (∀ p, p ≠ q → (s.reexaminePush q).queue p = s.queue p) ∧
      (∀ w ws, ((s.reexaminePush q).queue q).pushWaiters = w :: ws →
        ((s.reexaminePush q).queue q).free < 1 + w.length.val ∨ 48 ≤ (s.reexaminePush q).reservations.length)) ∧
  (∀ (s : State) (q : QueueId), (s.queue q).state = .running ∨ (s.queue q).state = .draining →
    (∃ gone, (s.queue q).popWaiters = gone ++ ((s.reexaminePop q).queue q).popWaiters) ∧
    (∀ w ws, ((s.reexaminePop q).queue q).popWaiters = w :: ws →
      (((s.reexaminePop q).queue q).visible < w.length.val ∧ ¬((s.queue q).state = .draining ∧ s.entriesOf q = [])) ∨
        16 ≤ ((s.reexaminePop q).queue q).popEntries.length) ∧
    (s.reexaminePop q).reservations = s.reservations ∧
    (∀ p, p ≠ q → (s.reexaminePop q).queue p = s.queue p)) ∧
  (∀ (s : State) (q : QueueId) (w : Waiter) (ws : List Waiter), (s.queue q).pushWaiters = w :: ws →
    1 + w.length.val ≤ (s.queue q).free → s.reservations.length < 48 →
    s.reexaminePush q = ((s.setQueue q { s.queue q with pushWaiters := ws }).grantPush q w.requester w.tag
      w.length).reexaminePush q) ∧
  (∀ (s : State) (q : QueueId) (w : Waiter) (ws : List Waiter), (s.queue q).popWaiters = w :: ws →
    (s.queue q).state = .running ∨ (s.queue q).state = .draining →
    (w.length.val ≤ (s.queue q).visible → (s.queue q).popEntries.length < 16 →
      s.reexaminePop q = ((s.setQueue q { s.queue q with popWaiters := ws }).grantPop q w.requester w.tag
        w.length).reexaminePop q) ∧
    ((s.queue q).visible < w.length.val → (s.queue q).state = .draining → s.entriesOf q = [] →
      s.reexaminePop q = ((s.setQueue q { s.queue q with popWaiters := ws }).declineQueue q w.requester w.tag
        .drained).reexaminePop q))

/-! ### The memory-side port, pops, notices and waiters -/

/-- R143, R145: a passage takes the request presented earliest of the first source that has one, and gives it a number
that no outstanding request holds. R144: while 96 requests are outstanding, none is passed. -/
def Obligations.PassageTakesTheEarliestOfTheFirstSource : Prop :=
  (∀ (s : State) (number : Nat) (r : MemRequest) (before after : List MemRequest), s.mem.passed.length < 96 →
    s.mem.waiting = before ++ r :: after → (∀ k ∈ before, r.owner.source < k.owner.source) →
    (∀ k ∈ after, r.owner.source ≤ k.owner.source) →
    ∃ n, n < 96 ∧ (∀ p ∈ s.mem.passed, p.number ≠ n) ∧
      exec (.memoryPassage number) s = .next (s.clearOutputs.withMem
        { waiting := before ++ after, passed := s.mem.passed ++ [⟨n, r⟩], handed := [⟨n, r⟩] })) ∧
  (∀ (s : State) (number : Nat), 96 ≤ s.mem.passed.length →
    exec (.memoryPassage number) s = .next s.clearOutputs)

/-- R143, R148: a completion whose number no outstanding request holds is discarded and changes no count, whichever row
carries it (log entry 4). -/
def Obligations.UnknownCompletionIsDiscarded : Prop :=
  ∀ (s : State) (number : Nat) (status : MemStatus) (data : List Word), (∀ p ∈ s.mem.passed, p.number ≠ number) →
    exec (.discardedCompletion number status data) s = .next s.clearOutputs ∧
    exec (.payloadWriteOk number) s = .next s.clearOutputs ∧
    exec (.payloadWriteError number) s = .next s.clearOutputs ∧
    exec (.headerWriteOk number) s = .next s.clearOutputs ∧
    exec (.headerWriteError number) s = .next s.clearOutputs ∧
    exec (.popReadOk number data) s = .next s.clearOutputs ∧
    exec (.popReadError number) s = .next s.clearOutputs ∧
    exec (.passThroughReadCompletion number status data) s = .next s.clearOutputs ∧
    exec (.passThroughWriteCompletion number status) s = .next s.clearOutputs ∧
    exec (.noticeWriteCompletion number status) s = .next s.clearOutputs

/-- R140, R141, R142: a pass-through access completes, a read with the words it asked for. Nothing is stalled at the port.
-/
def Obligations.PassThroughAccessIsAnswered : Prop :=
  (∀ (s : State) (n : Nat) (status : MemStatus) (data : List Word) (r : Requester) (t : Tag) (m : Addr) (x : Transaction),
    s.awaits n ⟨.passThrough r t, .read, m, x.request.beats.val, []⟩ → s.transaction r t = some x →
    x.request.direction = .read → x.answer = none → s.sys.arrivals = [] → s.link.softReset = false →
    (status = .ok → data.length = x.request.beats.val →
      exec (.passThroughReadCompletion n status data) s =
        .next ((s.clearOutputs.numberFreed n).respondedTo r t .ok data)) ∧
    (status = .error →
      exec (.passThroughReadCompletion n status data) s =
        .next (((s.clearOutputs.numberFreed n).respondedTo r t .decline
          (List.replicate x.request.beats.val (BitVec.allOnes 64))).appendLog (addressLogEntry .memory x.request)))) ∧
  (∀ (s : State) (n : Nat) (status : MemStatus) (r : Requester) (t : Tag) (m : Addr) (beats : List Beat)
    (x : Transaction),
    s.awaits n ⟨.passThrough r t, .write, m, x.request.beats.val, beats⟩ → s.transaction r t = some x →
    x.request.direction = .write → x.received = x.request.beats.val → x.answer = none → s.sys.arrivals = [] →
    s.link.softReset = false →
    (status = .ok →
      exec (.passThroughWriteCompletion n status) s =
        .next ((s.clearOutputs.numberFreed n).respondedTo r t .ok [])) ∧
    (status = .error →
      exec (.passThroughWriteCompletion n status) s =
        .next (((s.clearOutputs.numberFreed n).respondedTo r t .decline []).appendLog
          (addressLogEntry .memory x.request))))

/-- R60, R61: one of two reads of a pop completes: OK, and its words take their places, or ERROR, and the error is marked;
and the pop waits for the other read. R62, R65: the last read of a pop without an error answers the consumer with the
words in position order, and the pop entry leaves its list; release follows the oldest entry that remains, or read. R93, R96,
R97: a STOPPING queue that owns nothing more, and a DRAINING one whose visible is 0 besides, arrives at STOPPED. No request
waits. R66, R78, R80: and where requests wait, a removal that moves release re-examines the Push Waiter list, and every removal
the Pop Waiter list, before the drain-completion condition is tested. -/
def Obligations.PopReadsFillThePopAndAnswerIt : Prop :=
  (∀ (s : State) (n : Nat) (q : QueueId) (p : Position) (first : Nat) (a : Addr) (data : List Word) (e : PopEntry),
    s.awaits n ⟨.popRead q p first, .read, a, data.length, []⟩ → (s.queue q).popEntryAt p = some e →
    e.readsOutstanding = 2 → s.link.softReset = false →
    exec (.popReadOk n data) s = .next ((s.clearOutputs.numberFreed n).setQueue q { s.queue q with
      popEntries := (s.queue q).popEntries.map (fun y => if y.start = p then
        { e with
          returned := e.returned.take first ++ data.map some ++ e.returned.drop (first + data.length)
          readsOutstanding := 1 } else y) })) ∧
  (∀ (s : State) (n : Nat) (r : MemRequest) (q : QueueId) (p : Position) (first : Nat) (e : PopEntry), s.awaits n r →
    r.owner = .popRead q p first → (s.queue q).popEntryAt p = some e → e.readsOutstanding = 2 →
    s.link.softReset = false →
    exec (.popReadError n) s = .next ((s.clearOutputs.numberFreed n).setQueue q { s.queue q with
      popEntries := (s.queue q).popEntries.map (fun y =>
        if y.start = p then { e with errorSeen := true, readsOutstanding := 1 } else y) })) ∧
  (∀ (s : State) (n : Nat) (q : QueueId) (p : Position) (first : Nat) (a : Addr) (data : List Word) (e : PopEntry)
    (x : Transaction) (before after : List PopEntry) (words : List Word),
    s.awaits n ⟨.popRead q p first, .read, a, data.length, []⟩ → (s.queue q).popEntries = before ++ e :: after →
    e.start = p → (∀ k, k ∈ before ∨ k ∈ after → k.start ≠ p) → e.readsOutstanding = 1 → e.errorSeen = false →
    e.returned.take first ++ data.map some ++ e.returned.drop (first + data.length) = words.map some →
    (s.queue q).pushWaiters = [] → (s.queue q).popWaiters = [] →
    s.transaction e.requester e.tag = some x → x.request.direction = .read → x.answer = none → s.sys.arrivals = [] →
    s.link.softReset = false →
    let ends := before ++ after = [] ∧ s.entriesOf q = [] ∧
      ((s.queue q).state = .stopping ∨ ((s.queue q).state = .draining ∧ (s.queue q).visible = 0))
    (¬ends →
      exec (.popReadOk n data) s = .next (((s.clearOutputs.numberFreed n).setQueue q { s.queue q with
          popEntries := before ++ after
          release := (match before, after with
            | [], [] => (s.queue q).read
            | [], next :: _ => next.start
            | _ :: _, _ => (s.queue q).release) }).respondedTo e.requester e.tag .ok words)) ∧
    (ends →
      exec (.popReadOk n data) s = .next (((s.clearOutputs.numberFreed n).setQueue q
        { (s.queue q).atStopped with popEntries := [] }).respondedTo e.requester e.tag .ok words))) ∧
  (∀ (s : State) (n : Nat) (q : QueueId) (p : Position) (first : Nat) (a : Addr) (data : List Word) (e : PopEntry)
    (x : Transaction) (before after : List PopEntry) (words : List Word),
    s.awaits n ⟨.popRead q p first, .read, a, data.length, []⟩ → (s.queue q).popEntries = before ++ e :: after →
    e.start = p → (∀ k, k ∈ before ∨ k ∈ after → k.start ≠ p) → e.readsOutstanding = 1 → e.errorSeen = false →
    e.returned.take first ++ data.map some ++ e.returned.drop (first + data.length) = words.map some →
    s.transaction e.requester e.tag = some x → x.request.direction = .read → x.answer = none → s.sys.arrivals = [] →
    s.link.softReset = false →
    let release := (match before, after with
      | [], [] => (s.queue q).read
      | [], next :: _ => next.start
      | _ :: _, _ => (s.queue q).release)
    let removed := ((s.clearOutputs.numberFreed n).setQueue q
      { s.queue q with popEntries := before ++ after, release := release }).respondedTo e.requester e.tag .ok words
    let v := (if release = (s.queue q).release then removed else removed.reexaminePush q).reexaminePop q
    ((s.queue q).state = .running → exec (.popReadOk n data) s = .next v) ∧
    ((s.queue q).state = .draining → (s.queue q).pushWaiters = [] →
      let drained := s.entriesOf q = [] ∧ (v.queue q).popEntries = [] ∧ (v.queue q).visible = 0
      (drained → exec (.popReadOk n data) s = .next (v.setQueue q (v.queue q).atStopped)) ∧
      (¬drained → exec (.popReadOk n data) s = .next v)))

/-- R63, R65, R98, R174: the last read of a pop with an error, its own or that of its other read, answers DECLINE (RING-READ),
faults a RUNNING or DRAINING queue, and removes the pop entry, nothing being stalled at the port. R96, R97, R100: in STOPPING
there is no fault, and the queue arrives at STOPPED when nothing of it is left. That the fault comes before the consequences
of the removal is the model's reading (log entry 10). -/
def Obligations.FailedPopFaultsTheQueue : Prop :=
  ∀ (s : State) (n : Nat) (r : MemRequest) (q : QueueId) (p : Position) (first : Nat) (e : PopEntry)
    (before after : List PopEntry) (c : Instr), s.awaits n r →
    r.owner = .popRead q p first → (s.queue q).popEntries = before ++ e :: after → e.start = p →
    (∀ k, k ∈ before ∨ k ∈ after → k.start ≠ p) → e.readsOutstanding = 1 → s.sys.arrivals = [] →
    s.link.softReset = false →
    c = .popReadError n ∨ (e.errorSeen = true ∧ ∃ data, c = .popReadOk n data) →
    let release := (match before, after with
      | [], [] => (s.queue q).read
      | [], next :: _ => next.start
      | _ :: _, _ => (s.queue q).release)
    let lost : LogEntry := { reason := .ringRead, origin := some (e.requester, e.tag), queue := some q,
                             words := some (.count e.words.val) }
    let answered := fun (t : State) => ∀ x, s.transaction e.requester e.tag = some x → x.request.direction = .read →
      x.answer = none →
      ⟨e.requester, e.tag, .decline, List.replicate x.request.beats.val (BitVec.allOnes 64)⟩ ∈ t.sys.sent
    ((s.queue q).state = .running ∨ (s.queue q).state = .draining →
      ∃ t, exec c s = .next t ∧
        t.queue q = { s.queue q with
          popEntries := before ++ after
          release := release
          state := .faulted
          faultReason := some .ringRead
          resume := (if (s.queue q).state = .draining then .draining else .running)
          pushWaiters := []
          popWaiters := [] } ∧
        (∀ k, k ≠ q → t.queue k = s.queue k) ∧ t.reservations = s.reservations ∧
        t.log = s.log.appendAll ([lost,
            { reason := .queueFaulted, queue := some q, words := some (.fault .ringRead) }] ++
          ((s.queue q).pushWaiters ++ (s.queue q).popWaiters).map
            (fun w => queueLogEntry .faulted w.requester w.tag q)) ∧
        answered t ∧
        (∀ w, w ∈ (s.queue q).pushWaiters ∨ w ∈ (s.queue q).popWaiters →
          ¬(w.requester = e.requester ∧ w.tag = e.tag) → s.answersHeld t w .decline .faulted)) ∧
    ((s.queue q).state = .faulted → (s.queue q).pushWaiters = [] →
      ∃ t, exec c s = .next t ∧
        t.queue q = { s.queue q with popEntries := before ++ after, release := release } ∧
        (∀ k, k ≠ q → t.queue k = s.queue k) ∧ t.log = s.log.append lost ∧ answered t) ∧
    ((s.queue q).state = .stopping → (s.queue q).pushWaiters = [] → (s.queue q).popWaiters = [] →
      ∃ t, exec c s = .next t ∧
        (¬(before ++ after = [] ∧ s.entriesOf q = []) →
          t.queue q = { s.queue q with popEntries := before ++ after, release := release }) ∧
        (before ++ after = [] → s.entriesOf q = [] →
          t.queue q = { (s.queue q).atStopped with popEntries := [] }) ∧
        (∀ k, k ≠ q → t.queue k = s.queue k) ∧ t.reservations = s.reservations ∧ t.log = s.log.append lost ∧
        answered t)

/-- R109, R111, R112: a notice write completes: its record goes, an ERROR is logged with the address it carried, and the
queue is checked. -/
def Obligations.NoticeCompletionChecksTheQueue : Prop :=
  ∀ (s : State) (n : Nat) (status : MemStatus) (q : QueueId) (a : Addr) (v : Word),
    s.awaits n (oneWordWrite (.notice q) a v) → s.link.softReset = false →
    let left := { s.queue q with notices := (s.queue q).notices.erase ⟨a, v⟩ }
    let logged := fun (t : State) => if status = .error then
      t.appendLog { reason := .noticeFault, address := some a, queue := some q } else t
    let fires := left.noticeArmed = true ∧ left.config.threshold ≠ 0 ∧ left.config.threshold ≤ (s.queue q).visible ∧
      left.notices.length < 2
    (fires →
      exec (.noticeWriteCompletion n status) s = .next (((logged (s.clearOutputs.numberFreed n)).setQueue q
        { left with noticeArmed := false, notices := left.notices ++ [noticeRecordOf left] }).presenting
          [noticeWrite q left])) ∧
    (¬fires →
      exec (.noticeWriteCompletion n status) s = .next ((logged (s.clearOutputs.numberFreed n)).setQueue q left))

/-- R81, R138, R173: a held request that expires, none having an earlier deadline, leaves its list and is answered RETRY
(TIMEOUT); behind the head nothing else of the queue changes. R78: when the head of a Push Waiter list goes, the new head, if
any, is granted at once if it fits and an entry is free, and stays otherwise. R80: when the head of a Pop Waiter list goes,
the new head is granted at once if it can be, and stays otherwise. Nothing is stalled at the port. The command moves the hold
clock up to the deadline, and has no effect while another held request has an earlier one (the model's choice, log entry 2).
-/
def Obligations.ExpiryAnswersTheWaiter : Prop :=
  (∀ (s : State) (h w : Waiter) (q : QueueId) (side : Side) (before after : List Waiter) (x : Transaction),
    (s.queue q).waiters side = h :: before ++ w :: after → s.heldRequest w.requester w.tag = some ⟨q, side, w⟩ →
    (∀ k ∈ s.heldRequests, w.deadline ≤ k.waiter.deadline) →
    (∀ k, k ∈ h :: before ∨ k ∈ after → ¬(k.requester = w.requester ∧ k.tag = w.tag)) →
    s.transaction w.requester w.tag = some x → x.answer = none → s.sys.arrivals = [] → s.link.softReset = false →
    let left := ((s.clearOutputs.setQueue q ((s.queue q).withWaiters side (h :: before ++ after))).withHold
      { s.hold with clock := max s.hold.clock w.deadline }).loggedRetry q w.requester w.tag .timeout
    (x.request.direction = .read →
      exec (.waiterExpiry w.requester w.tag) s = .next (left.respondedTo w.requester w.tag .retry
        (List.replicate x.request.beats.val (BitVec.allOnes 64)))) ∧
    (x.request.direction = .write → x.received < x.request.beats.val →
      exec (.waiterExpiry w.requester w.tag) s = .next (left.setTransaction
        { x with answer := some ⟨.retry, some .timeout, []⟩, beatMode := some .dropping }))) ∧
  (∀ (s : State) (w : Waiter) (ws : List Waiter) (q : QueueId) (x : Transaction), (s.queue q).pushWaiters = w :: ws →
    s.heldRequest w.requester w.tag = some ⟨q, .push, w⟩ →
    (∀ k ∈ s.heldRequests, w.deadline ≤ k.waiter.deadline) →
    (∀ k ∈ ws, ¬(k.requester = w.requester ∧ k.tag = w.tag)) → s.transaction w.requester w.tag = some x →
    x.answer = none → x.request.direction = .write → x.received < x.request.beats.val → s.sys.arrivals = [] →
    s.link.softReset = false →
    let left := ((((s.clearOutputs.setQueue q { s.queue q with pushWaiters := ws }).withHold
        { s.hold with clock := max s.hold.clock w.deadline }).loggedRetry q w.requester w.tag .timeout).setTransaction
        { x with answer := some ⟨.retry, some .timeout, []⟩, beatMode := some .dropping })
    ((∀ next ∈ ws.head?, (s.queue q).free < 1 + next.length.val ∨ 48 ≤ s.reservations.length) →
      exec (.waiterExpiry w.requester w.tag) s = .next left) ∧
    (∀ next, ws = [next] → 1 + next.length.val ≤ (s.queue q).free → s.reservations.length < 48 →
      exec (.waiterExpiry w.requester w.tag) s = .next ((left.setQueue q
        { s.queue q with pushWaiters := [] }).grantPush q next.requester next.tag next.length))) ∧
  (∀ (s : State) (w : Waiter) (ws : List Waiter) (q : QueueId) (x : Transaction), (s.queue q).popWaiters = w :: ws →
    s.heldRequest w.requester w.tag = some ⟨q, .pop, w⟩ →
    (∀ k ∈ s.heldRequests, w.deadline ≤ k.waiter.deadline) →
    (∀ k ∈ ws, ¬(k.requester = w.requester ∧ k.tag = w.tag)) → s.transaction w.requester w.tag = some x →
    x.answer = none → x.request.direction = .read → s.sys.arrivals = [] → s.link.softReset = false →
    (s.queue q).state = .running ∨ (s.queue q).state = .draining →
    let left := ((((s.clearOutputs.setQueue q { s.queue q with popWaiters := ws }).withHold
        { s.hold with clock := max s.hold.clock w.deadline }).loggedRetry q w.requester w.tag .timeout).respondedTo
        w.requester w.tag .retry (List.replicate x.request.beats.val (BitVec.allOnes 64)))
    ((∀ next ∈ ws.head?,
        ((s.queue q).visible < next.length.val ∧ ¬((s.queue q).state = .draining ∧ s.entriesOf q = [])) ∨
          (next.length.val ≤ (s.queue q).visible ∧ 16 ≤ (s.queue q).popEntries.length)) →
      exec (.waiterExpiry w.requester w.tag) s = .next left) ∧
    (∀ next, ws = [next] → next.length.val ≤ (s.queue q).visible → (s.queue q).popEntries.length < 16 →
      exec (.waiterExpiry w.requester w.tag) s = .next ((left.setQueue q
        { s.queue q with popWaiters := [] }).grantPop q next.requester next.tag next.length))) ∧
  (∀ (s : State) (h : HeldRequest), s.heldRequest h.waiter.requester h.waiter.tag = some h →
    (∃ k ∈ s.heldRequests, k.waiter.deadline < h.waiter.deadline) →
    exec (.waiterExpiry h.waiter.requester h.waiter.tag) s = .next s.clearOutputs)

/-! ### Rings, records and layouts -/

/-- R8, R9: the pieces of an access of k words at position p: one request, or two split at the ring end, that cover each
position once, at its own byte address. R7: by the order law of R6, visible, in flight, open and free add up to the ring
size. -/
def Obligations.RingPiecesAndQuantities : Prop :=
  (∀ (c : QueueConfig) (p : Position) (k : Nat), ringSizeValue c.ringSize → c.ringSize ≠ 0 → 1 ≤ k → k ≤ 17 →
    (c.ringPieces p k).length = (if p.toNat % c.ringSize + k ≤ c.ringSize then 1 else 2) ∧
      ((c.ringPieces p k).map (fun x => x.words)).sum = k ∧
      ∀ j, j < k → ∃ x ∈ c.ringPieces p k, x.first ≤ j ∧ j < x.first + x.words ∧
        x.address + BitVec.ofNat 40 (8 * (j - x.first)) = c.positionAddress (p + BitVec.ofNat 32 j) ∧
        ∀ y ∈ c.ringPieces p k, y.first ≤ j → j < y.first + y.words → y = x) ∧
  (∀ x : Queue, x.inFlight + x.visible + x.openWords = wordsBetween x.release x.reserve →
    wordsBetween x.release x.reserve ≤ x.config.ringSize →
    x.visible + x.inFlight + x.openWords + x.free = x.config.ringSize ∧ x.visible ≤ x.config.ringSize ∧
      x.inFlight ≤ x.config.ringSize ∧ x.openWords ≤ x.config.ringSize)

/-- R14, R179: the header word of a record, each field at its byte. -/
def Obligations.HeaderWordHoldsItsFields : Prop :=
  ∀ (kind : RecordKind) (q : QueueId) (r : Requester) (n : Sequence) (L : BurstLength) (lastBytes : Nat), lastBytes ≤ 8 →
    let w := headerWord kind q r n L lastBytes
    w.extractLsb' 0 8 = 0xA5 ∧
      w.extractLsb' 8 8 = (match kind with | .data => 0x01 | .filler => 0x02) ∧
      (w.extractLsb' 16 8).toNat = q.val ∧ (w.extractLsb' 24 8).toNat = r.val ∧ w.extractLsb' 32 16 = n ∧
      (w.extractLsb' 48 8).toNat = L.val ∧ (w.extractLsb' 56 8).toNat = lastBytes

/-- R181: the 19 bytes of a window entry and the 28 bytes of a queue configuration: each field at its place, and writing
and reading agree on every valid entry and on every configuration whose numbers fit their fields. R180, R181, R182: the codes
of the commands, statuses, queue states, resume states, fault reasons, policies, window kinds, actions and log reasons. -/
def Obligations.LayoutsAreReadBackWhole : Prop :=
  ((∀ w : Window, w.bytes.length = 19 ∧ field w.bytes 0 1 = (if w.enabled then 1 else 0) ∧
    field w.bytes 1 5 = w.base.toNat ∧ field w.bytes 6 5 = w.limit.toNat ∧ field w.bytes 11 1 = w.kind.code ∧
    field w.bytes 12 1 = w.queue.val ∧ field w.bytes 13 5 = w.target.toNat ∧ field w.bytes 18 1 = w.classes.toNat) ∧
  (∀ w : Window, w.valid → Window.ofBytes w.bytes = some w) ∧
  (∀ (bs : List Byte) (w : Window), bs.length = 19 → Window.ofBytes bs = some w → w.valid ∧ w.bytes = bs)) ∧
  ((∀ c : QueueConfig, c.ringSize < 2 ^ 24 → c.holdLimit < 2 ^ 16 → c.threshold < 2 ^ 24 →
    c.bytes.length = 28 ∧ field c.bytes 0 5 = c.ringBase.toNat ∧ field c.bytes 5 3 = c.ringSize ∧
    field c.bytes 8 1 = c.fullPolicy.code + 16 * c.emptyPolicy.code ∧ field c.bytes 9 2 = c.holdLimit ∧
    field c.bytes 11 1 = c.directAccess.toNat + 16 * (if c.logRetries then 1 else 0) ∧
    field c.bytes 12 5 = c.noticeAddress.toNat ∧ field c.bytes 17 8 = c.noticeValue.toNat ∧
    field c.bytes 25 3 = c.threshold ∧ QueueConfig.ofBytes c.bytes = some c) ∧
  (∀ (bs : List Byte) (c : QueueConfig), bs.length = 28 → QueueConfig.ofBytes bs = some c → c.bytes = bs)) ∧
  (∀ c : Command, (c, c.code, c.payloadLength) ∈
    [(Command.readStatus, 0x01#8, 0), (.readWindow, 0x02, 1), (.writeWindow, 0x03, 20), (.readClassMap, 0x04, 0),
      (.writeClass, 0x05, 2), (.readQueue, 0x06, 1), (.configureQueue, 0x07, 29), (.queueCommand, 0x08, 2),
      (.readLog, 0x09, 0), (.peekLog, 0x0A, 0), (.softReset, 0x0B, 0)]) ∧
  (∀ r : Result, (r, r.code) ∈
    [(Result.done, 0x01#8), (.accepted, 0x02), (.refusedState, 0x10), (.badConfig, 0x11), (.badIndex, 0x12),
      (.badValue, 0x13), (.logEmpty, 0x14), (.busy, 0x20), (.unknownCommand, 0x21), (.badFrame, 0x22), (.notReady, 0x30),
      (.noResponse, 0x31)]) ∧
  (∀ x : QueueState, (x, x.code) ∈
    [(QueueState.stopped, 0), (.running, 1), (.draining, 2), (.stopping, 3), (.faulted, 4)]) ∧
  (∀ x : ResumeState, (x, x.code) ∈ [(ResumeState.running, 1), (.draining, 2)]) ∧
  (∀ x : Option FaultReason, (x, faultCode x) ∈
    [(none, 0), (some FaultReason.fullLatch, 1), (some .emptyLatch, 2), (some .headerWrite, 3), (some .ringRead, 4)]) ∧
  (∀ x : Policy, (x, x.code) ∈ [(Policy.hold, 0), (.refuse, 1), (.latch, 2)]) ∧
  (∀ x : WindowKind, (x, x.code) ∈ [(WindowKind.pass, 0), (.remap, 1), (.push, 2), (.pop, 3), (.block, 4)]) ∧
  (∀ x : QueueAction, (x, x.code) ∈
    [(QueueAction.start, 1#8), (.drain, 2), (.stop, 3), (.flush, 4), (.clearFault, 5), (.armNotice, 6)]) ∧
  (∀ x : Reason, (x, x.code) ∈
    [(Reason.align, 0x01#8), (.boundary, 0x02), (.kind, 0x03), (.blocked, 0x04), (.guard, 0x05), (.memory, 0x06),
      (.state, 0x10), (.faulted, 0x11), (.latched, 0x12), (.drained, 0x13), (.abandoned, 0x14), (.headerWrite, 0x15),
      (.ringRead, 0x16), (.full, 0x20), (.empty, 0x21), (.noSlot, 0x22), (.timeout, 0x23), (.queueFaulted, 0x30),
      (.noticeFault, 0x31)])

/-! ### The Exception Log and the attention line -/

/-- R172, R175: an append to a log that is not full joins it at the youngest end; with 32 entries it is dropped and
counted, up to 65535. R177: the attention line is asserted exactly while the log holds an entry or some queue is FAULTED.
-/
def Obligations.LogAppendAndAttentionLine : Prop :=
  (∀ (l : ExceptionLog) (e : LogEntry),
    (l.entries.length < 32 → l.append e = ⟨l.entries ++ [e], l.lost⟩) ∧
    (l.entries.length = 32 → l.lost < 65535 → l.append e = ⟨l.entries, l.lost + 1⟩) ∧
    (l.entries.length = 32 → l.lost = 65535 → l.append e = l)) ∧
  (∀ s : State, s.attentionLine = true ↔ s.log.entries ≠ [] ∨ ∃ q, (s.queue q).state = .faulted)

/-! ### What every step keeps -/

/-- The laws hold right after reset. -/
def Obligations.ResetSatisfiesTheLaws : Prop :=
  CapacityLaw State.reset ∧ LostLaw State.reset ∧ FaultLaw State.reset ∧ WaiterLaw State.reset ∧
    TrackerLaw State.reset ∧ NumberLaw State.reset ∧ SoftResetLaw State.reset ∧ PositionLaw State.reset ∧
    HeadLaw State.reset ∧ PopHeadLaw State.reset ∧ ArbiterLaw State.reset ∧ ClockLaw State.reset

/-- R18, R54, R76, R112, R134, R144, R171, R175: no step takes a pool beyond its capacity, and the lost count is greater
than 0 only while the log holds an entry. R134, R143: after every step no two tracker entries hold the same requester and
tag, and no two outstanding requests the same number. -/
def Obligations.StepKeepsTheCapacities : Prop :=
  (∀ s t : State, CapacityLaw s → LostLaw s → step s = .next t → CapacityLaw t ∧ LostLaw t) ∧
  (∀ s t : State, TrackerLaw s → NumberLaw s → step s = .next t → TrackerLaw t ∧ NumberLaw t)

/-- R2, R83, R88: after every step the fault reason is present exactly while the state is FAULTED, and waiters wait only
in the states that may keep them. And the hold clock has passed no deadline of a held request, so that each expiry comes at its
deadline: the model's choice (log entries 1 and 2), by which it keeps R81. -/
def Obligations.StepKeepsTheStateLaws : Prop :=
  (∀ s t : State, FaultLaw s → WaiterLaw s → step s = .next t → FaultLaw t ∧ WaiterLaw t) ∧
  (∀ s t : State, ClockLaw s → step s = .next t → ClockLaw t)

/-- R106, R168, R169: while a soft reset is in progress every queue is STOPPING or STOPPED, and the step in which every queue is
STOPPED and the tracker empty completes it. R169, R178: the command that completes it, whatever command it is, leaves every
queue STOPPED with its configuration, the tables as they were, the log empty, the lost count 0 and the attention line
deasserted; and then the port tests the presented request (that a request which becomes presented by its taking is tested in the
same event is the model's choice, log entry 29). R149, R168: until then each command that carries on work already taken (a beat,
a passage, a completion, an expiry) does what it does with no soft reset in progress and nothing at the port, and the requests
at the port stay; and where the test then holds, the soft reset completes in that event. -/
def Obligations.StepKeepsTheSoftResetLaw : Prop :=
  (∀ s t : State, SoftResetLaw s → step s = .next t → SoftResetLaw t) ∧
  (∀ (c : Instr) (s t : State), exec c s = .next t → s.link.softReset = true → t.link.softReset = false →
    (∀ p, c ≠ .powerOnReset p) →
    ∃ u : State, (∀ q, (u.queue q).state = .stopped ∧ (u.queue q).config = (s.queue q).config) ∧ u.sys.tracker = [] ∧
      u.sys.arrivals = s.sys.arrivals ∧ u.windows = s.windows ∧ u.classes = s.classes ∧ u.link.softReset = false ∧
      u.log.entries = [] ∧ u.log.lost = 0 ∧ u.attentionLine = false ∧
      t = u.takePresented ∧ (s.sys.arrivals = [] → t = u) ∧
      (∀ a, s.sys.arrivals = [a] → t = (u.withSys { u.sys with arrivals := [] }).take a)) ∧
  (∀ (c : Instr) (s t : State), carriesOn c = true → s.link.softReset = true → SoftResetLaw s → exec c s.alone = .next t →
    (¬t.runDown → exec c s = .next (t.backIn s true)) ∧
    (t.runDown → exec c s = .next ((t.backIn s false).withLog ⟨[], 0⟩).takePresented))

/-- R6, R20, R21, R55: after every step the positions of every queue stand in order within the ring, its pop entries
within release and read, and its reservation entries tile the span from commit to reserve with consecutive sequence
numbers. -/
def Obligations.StepKeepsThePositionLaw : Prop :=
  ∀ s t : State, PositionLaw s → step s = .next t → PositionLaw t

/-- R36, R78, R80: after every step no push waiter at the head of its list could be granted with a free entry, and no pop waiter
at the head of its list could be granted. That the arbiter's run may be put off, and then only where the next command is a
TAKE_REQUEST, is the model's choice for R37 (log entry 8). -/
def Obligations.StepLeavesNoWaiterThatCouldBeGranted : Prop :=
  (∀ s t : State, PositionLaw s → WaiterLaw s → HeadLaw s → PopHeadLaw s → step s = .next t → HeadLaw t ∧ PopHeadLaw t) ∧
  (∀ s t : State, ArbiterLaw s → step s = .next t → ArbiterLaw t)

/-- R1, R116: the configuration of a queue that is not STOPPED changes only by a power-on reset, and the Window Table and
the Class Map only by their own commands and a power-on reset. -/
def Obligations.OnlyTheirCommandsChangeConfigurations : Prop :=
  ∀ (c : Instr) (s t : State), exec c s = .next t → (∀ p, c ≠ .powerOnReset p) →
    (∀ q, (s.queue q).state ≠ .stopped → (t.queue q).config = (s.queue q).config) ∧
    (c ≠ .configureQueue → ∀ q, (t.queue q).config = (s.queue q).config) ∧
    (c ≠ .writeWindow → t.windows = s.windows) ∧ (c ≠ .writeClass → t.classes = s.classes)

/-- R88, R99, R100, R96: a STOPPED queue leaves STOPPED only by START; a FAULTED queue leaves FAULTED, and changes its
fault reason and resume state, only by CLEAR-FAULT, STOP, a soft reset or a power-on reset; and the read and commit
positions of a STOPPING queue stand still until it is STOPPED. -/
def Obligations.QueueStatesChangeOnlyByTheirCauses : Prop :=
  ∀ (c : Instr) (s t : State) (q : QueueId), exec c s = .next t → (∀ p, c ≠ .powerOnReset p) →
    ((s.queue q).state = .stopped → c ≠ .start → c ≠ .queueCommand → (t.queue q).state = .stopped) ∧
    ((s.queue q).state = .faulted → c ≠ .clearFault → c ≠ .stop → c ≠ .queueCommand → c ≠ .softReset →
      (t.queue q).state = .faulted ∧ (t.queue q).faultReason = (s.queue q).faultReason ∧
        (t.queue q).resume = (s.queue q).resume) ∧
    ((s.queue q).state = .stopping →
      ((t.queue q).state = .stopping ∧ (t.queue q).read = (s.queue q).read ∧
        (t.queue q).commit = (s.queue q).commit) ∨ (t.queue q).state = .stopped)
end

