-- ==== Sys2Proof/Laws/State.lean ====
section
/-! SUPPORT. One lemma per field per update of State, each true by rfl, so that no later proof unfolds a record update. -/

namespace Sys2Proof.Machine.Laws

open Sys2Proof.Machine

variable (s : State)

/-! ### withSys -/

@[simp] theorem withSys_sys (x : SystemPort) : (s.withSys x).sys = x := rfl
@[simp] theorem withSys_windows (x : SystemPort) : (s.withSys x).windows = s.windows := rfl
@[simp] theorem withSys_classes (x : SystemPort) : (s.withSys x).classes = s.classes := rfl
@[simp] theorem withSys_queues (x : SystemPort) : (s.withSys x).queues = s.queues := rfl
@[simp] theorem withSys_reservations (x : SystemPort) : (s.withSys x).reservations = s.reservations := rfl
@[simp] theorem withSys_hold (x : SystemPort) : (s.withSys x).hold = s.hold := rfl
@[simp] theorem withSys_mem (x : SystemPort) : (s.withSys x).mem = s.mem := rfl
@[simp] theorem withSys_link (x : SystemPort) : (s.withSys x).link = s.link := rfl
@[simp] theorem withSys_log (x : SystemPort) : (s.withSys x).log = s.log := rfl
@[simp] theorem withSys_arbiterDue (x : SystemPort) : (s.withSys x).arbiterDue = s.arbiterDue := rfl
@[simp] theorem withSys_freeUses (x : SystemPort) : (s.withSys x).freeUses = s.freeUses := rfl
@[simp] theorem withSys_pending (x : SystemPort) : (s.withSys x).pending = s.pending := rfl
@[simp] theorem withSys_queue (x : SystemPort) (q : QueueId) : (s.withSys x).queue q = s.queue q := rfl

/-! ### withWindows -/

@[simp] theorem withWindows_sys (x : Vector Window 32) : (s.withWindows x).sys = s.sys := rfl
@[simp] theorem withWindows_windows (x : Vector Window 32) : (s.withWindows x).windows = x := rfl
@[simp] theorem withWindows_classes (x : Vector Window 32) : (s.withWindows x).classes = s.classes := rfl
@[simp] theorem withWindows_queues (x : Vector Window 32) : (s.withWindows x).queues = s.queues := rfl
@[simp] theorem withWindows_reservations (x : Vector Window 32) : (s.withWindows x).reservations = s.reservations := rfl
@[simp] theorem withWindows_hold (x : Vector Window 32) : (s.withWindows x).hold = s.hold := rfl
@[simp] theorem withWindows_mem (x : Vector Window 32) : (s.withWindows x).mem = s.mem := rfl
@[simp] theorem withWindows_link (x : Vector Window 32) : (s.withWindows x).link = s.link := rfl
@[simp] theorem withWindows_log (x : Vector Window 32) : (s.withWindows x).log = s.log := rfl
@[simp] theorem withWindows_arbiterDue (x : Vector Window 32) : (s.withWindows x).arbiterDue = s.arbiterDue := rfl
@[simp] theorem withWindows_freeUses (x : Vector Window 32) : (s.withWindows x).freeUses = s.freeUses := rfl
@[simp] theorem withWindows_pending (x : Vector Window 32) : (s.withWindows x).pending = s.pending := rfl
@[simp] theorem withWindows_queue (x : Vector Window 32) (q : QueueId) : (s.withWindows x).queue q = s.queue q := rfl

/-! ### withClasses -/

@[simp] theorem withClasses_sys (x : Vector RequesterClass 64) : (s.withClasses x).sys = s.sys := rfl
@[simp] theorem withClasses_windows (x : Vector RequesterClass 64) : (s.withClasses x).windows = s.windows := rfl
@[simp] theorem withClasses_classes (x : Vector RequesterClass 64) : (s.withClasses x).classes = x := rfl
@[simp] theorem withClasses_queues (x : Vector RequesterClass 64) : (s.withClasses x).queues = s.queues := rfl
@[simp] theorem withClasses_reservations (x : Vector RequesterClass 64) : (s.withClasses x).reservations = s.reservations := rfl
@[simp] theorem withClasses_hold (x : Vector RequesterClass 64) : (s.withClasses x).hold = s.hold := rfl
@[simp] theorem withClasses_mem (x : Vector RequesterClass 64) : (s.withClasses x).mem = s.mem := rfl
@[simp] theorem withClasses_link (x : Vector RequesterClass 64) : (s.withClasses x).link = s.link := rfl
@[simp] theorem withClasses_log (x : Vector RequesterClass 64) : (s.withClasses x).log = s.log := rfl
@[simp] theorem withClasses_arbiterDue (x : Vector RequesterClass 64) : (s.withClasses x).arbiterDue = s.arbiterDue := rfl
@[simp] theorem withClasses_freeUses (x : Vector RequesterClass 64) : (s.withClasses x).freeUses = s.freeUses := rfl
@[simp] theorem withClasses_pending (x : Vector RequesterClass 64) : (s.withClasses x).pending = s.pending := rfl
@[simp] theorem withClasses_queue (x : Vector RequesterClass 64) (q : QueueId) : (s.withClasses x).queue q = s.queue q := rfl

/-! ### withReservations -/

@[simp] theorem withReservations_sys (x : List Entry) : (s.withReservations x).sys = s.sys := rfl
@[simp] theorem withReservations_windows (x : List Entry) : (s.withReservations x).windows = s.windows := rfl
@[simp] theorem withReservations_classes (x : List Entry) : (s.withReservations x).classes = s.classes := rfl
@[simp] theorem withReservations_queues (x : List Entry) : (s.withReservations x).queues = s.queues := rfl
@[simp] theorem withReservations_reservations (x : List Entry) : (s.withReservations x).reservations = x := rfl
@[simp] theorem withReservations_hold (x : List Entry) : (s.withReservations x).hold = s.hold := rfl
@[simp] theorem withReservations_mem (x : List Entry) : (s.withReservations x).mem = s.mem := rfl
@[simp] theorem withReservations_link (x : List Entry) : (s.withReservations x).link = s.link := rfl
@[simp] theorem withReservations_log (x : List Entry) : (s.withReservations x).log = s.log := rfl
@[simp] theorem withReservations_arbiterDue (x : List Entry) : (s.withReservations x).arbiterDue = s.arbiterDue := rfl
@[simp] theorem withReservations_freeUses (x : List Entry) : (s.withReservations x).freeUses = s.freeUses := rfl
@[simp] theorem withReservations_pending (x : List Entry) : (s.withReservations x).pending = s.pending := rfl
@[simp] theorem withReservations_queue (x : List Entry) (q : QueueId) : (s.withReservations x).queue q = s.queue q := rfl

/-! ### withHold -/

@[simp] theorem withHold_sys (x : HoldUnit) : (s.withHold x).sys = s.sys := rfl
@[simp] theorem withHold_windows (x : HoldUnit) : (s.withHold x).windows = s.windows := rfl
@[simp] theorem withHold_classes (x : HoldUnit) : (s.withHold x).classes = s.classes := rfl
@[simp] theorem withHold_queues (x : HoldUnit) : (s.withHold x).queues = s.queues := rfl
@[simp] theorem withHold_reservations (x : HoldUnit) : (s.withHold x).reservations = s.reservations := rfl
@[simp] theorem withHold_hold (x : HoldUnit) : (s.withHold x).hold = x := rfl
@[simp] theorem withHold_mem (x : HoldUnit) : (s.withHold x).mem = s.mem := rfl
@[simp] theorem withHold_link (x : HoldUnit) : (s.withHold x).link = s.link := rfl
@[simp] theorem withHold_log (x : HoldUnit) : (s.withHold x).log = s.log := rfl
@[simp] theorem withHold_arbiterDue (x : HoldUnit) : (s.withHold x).arbiterDue = s.arbiterDue := rfl
@[simp] theorem withHold_freeUses (x : HoldUnit) : (s.withHold x).freeUses = s.freeUses := rfl
@[simp] theorem withHold_pending (x : HoldUnit) : (s.withHold x).pending = s.pending := rfl
@[simp] theorem withHold_queue (x : HoldUnit) (q : QueueId) : (s.withHold x).queue q = s.queue q := rfl

/-! ### withMem -/

@[simp] theorem withMem_sys (x : MemoryPort) : (s.withMem x).sys = s.sys := rfl
@[simp] theorem withMem_windows (x : MemoryPort) : (s.withMem x).windows = s.windows := rfl
@[simp] theorem withMem_classes (x : MemoryPort) : (s.withMem x).classes = s.classes := rfl
@[simp] theorem withMem_queues (x : MemoryPort) : (s.withMem x).queues = s.queues := rfl
@[simp] theorem withMem_reservations (x : MemoryPort) : (s.withMem x).reservations = s.reservations := rfl
@[simp] theorem withMem_hold (x : MemoryPort) : (s.withMem x).hold = s.hold := rfl
@[simp] theorem withMem_mem (x : MemoryPort) : (s.withMem x).mem = x := rfl
@[simp] theorem withMem_link (x : MemoryPort) : (s.withMem x).link = s.link := rfl
@[simp] theorem withMem_log (x : MemoryPort) : (s.withMem x).log = s.log := rfl
@[simp] theorem withMem_arbiterDue (x : MemoryPort) : (s.withMem x).arbiterDue = s.arbiterDue := rfl
@[simp] theorem withMem_freeUses (x : MemoryPort) : (s.withMem x).freeUses = s.freeUses := rfl
@[simp] theorem withMem_pending (x : MemoryPort) : (s.withMem x).pending = s.pending := rfl
@[simp] theorem withMem_queue (x : MemoryPort) (q : QueueId) : (s.withMem x).queue q = s.queue q := rfl

/-! ### withLink -/

@[simp] theorem withLink_sys (x : Link) : (s.withLink x).sys = s.sys := rfl
@[simp] theorem withLink_windows (x : Link) : (s.withLink x).windows = s.windows := rfl
@[simp] theorem withLink_classes (x : Link) : (s.withLink x).classes = s.classes := rfl
@[simp] theorem withLink_queues (x : Link) : (s.withLink x).queues = s.queues := rfl
@[simp] theorem withLink_reservations (x : Link) : (s.withLink x).reservations = s.reservations := rfl
@[simp] theorem withLink_hold (x : Link) : (s.withLink x).hold = s.hold := rfl
@[simp] theorem withLink_mem (x : Link) : (s.withLink x).mem = s.mem := rfl
@[simp] theorem withLink_link (x : Link) : (s.withLink x).link = x := rfl
@[simp] theorem withLink_log (x : Link) : (s.withLink x).log = s.log := rfl
@[simp] theorem withLink_arbiterDue (x : Link) : (s.withLink x).arbiterDue = s.arbiterDue := rfl
@[simp] theorem withLink_freeUses (x : Link) : (s.withLink x).freeUses = s.freeUses := rfl
@[simp] theorem withLink_pending (x : Link) : (s.withLink x).pending = s.pending := rfl
@[simp] theorem withLink_queue (x : Link) (q : QueueId) : (s.withLink x).queue q = s.queue q := rfl

/-! ### withLog -/

@[simp] theorem withLog_sys (x : ExceptionLog) : (s.withLog x).sys = s.sys := rfl
@[simp] theorem withLog_windows (x : ExceptionLog) : (s.withLog x).windows = s.windows := rfl
@[simp] theorem withLog_classes (x : ExceptionLog) : (s.withLog x).classes = s.classes := rfl
@[simp] theorem withLog_queues (x : ExceptionLog) : (s.withLog x).queues = s.queues := rfl
@[simp] theorem withLog_reservations (x : ExceptionLog) : (s.withLog x).reservations = s.reservations := rfl
@[simp] theorem withLog_hold (x : ExceptionLog) : (s.withLog x).hold = s.hold := rfl
@[simp] theorem withLog_mem (x : ExceptionLog) : (s.withLog x).mem = s.mem := rfl
@[simp] theorem withLog_link (x : ExceptionLog) : (s.withLog x).link = s.link := rfl
@[simp] theorem withLog_log (x : ExceptionLog) : (s.withLog x).log = x := rfl
@[simp] theorem withLog_arbiterDue (x : ExceptionLog) : (s.withLog x).arbiterDue = s.arbiterDue := rfl
@[simp] theorem withLog_freeUses (x : ExceptionLog) : (s.withLog x).freeUses = s.freeUses := rfl
@[simp] theorem withLog_pending (x : ExceptionLog) : (s.withLog x).pending = s.pending := rfl
@[simp] theorem withLog_queue (x : ExceptionLog) (q : QueueId) : (s.withLog x).queue q = s.queue q := rfl

/-! ### withArbiterDue -/

@[simp] theorem withArbiterDue_sys (x : Bool) : (s.withArbiterDue x).sys = s.sys := rfl
@[simp] theorem withArbiterDue_windows (x : Bool) : (s.withArbiterDue x).windows = s.windows := rfl
@[simp] theorem withArbiterDue_classes (x : Bool) : (s.withArbiterDue x).classes = s.classes := rfl
@[simp] theorem withArbiterDue_queues (x : Bool) : (s.withArbiterDue x).queues = s.queues := rfl
@[simp] theorem withArbiterDue_reservations (x : Bool) : (s.withArbiterDue x).reservations = s.reservations := rfl
@[simp] theorem withArbiterDue_hold (x : Bool) : (s.withArbiterDue x).hold = s.hold := rfl
@[simp] theorem withArbiterDue_mem (x : Bool) : (s.withArbiterDue x).mem = s.mem := rfl
@[simp] theorem withArbiterDue_link (x : Bool) : (s.withArbiterDue x).link = s.link := rfl
@[simp] theorem withArbiterDue_log (x : Bool) : (s.withArbiterDue x).log = s.log := rfl
@[simp] theorem withArbiterDue_arbiterDue (x : Bool) : (s.withArbiterDue x).arbiterDue = x := rfl
@[simp] theorem withArbiterDue_freeUses (x : Bool) : (s.withArbiterDue x).freeUses = s.freeUses := rfl
@[simp] theorem withArbiterDue_pending (x : Bool) : (s.withArbiterDue x).pending = s.pending := rfl
@[simp] theorem withArbiterDue_queue (x : Bool) (q : QueueId) : (s.withArbiterDue x).queue q = s.queue q := rfl

/-! ### withPending -/

@[simp] theorem withPending_sys (x : List Instr) : (s.withPending x).sys = s.sys := rfl
@[simp] theorem withPending_windows (x : List Instr) : (s.withPending x).windows = s.windows := rfl
@[simp] theorem withPending_classes (x : List Instr) : (s.withPending x).classes = s.classes := rfl
@[simp] theorem withPending_queues (x : List Instr) : (s.withPending x).queues = s.queues := rfl
@[simp] theorem withPending_reservations (x : List Instr) : (s.withPending x).reservations = s.reservations := rfl
@[simp] theorem withPending_hold (x : List Instr) : (s.withPending x).hold = s.hold := rfl
@[simp] theorem withPending_mem (x : List Instr) : (s.withPending x).mem = s.mem := rfl
@[simp] theorem withPending_link (x : List Instr) : (s.withPending x).link = s.link := rfl
@[simp] theorem withPending_log (x : List Instr) : (s.withPending x).log = s.log := rfl
@[simp] theorem withPending_arbiterDue (x : List Instr) : (s.withPending x).arbiterDue = s.arbiterDue := rfl
@[simp] theorem withPending_freeUses (x : List Instr) : (s.withPending x).freeUses = s.freeUses := rfl
@[simp] theorem withPending_pending (x : List Instr) : (s.withPending x).pending = x := rfl
@[simp] theorem withPending_queue (x : List Instr) (q : QueueId) : (s.withPending x).queue q = s.queue q := rfl

/-! ### useFree -/

@[simp] theorem useFree_sys : s.useFree.sys = s.sys := rfl
@[simp] theorem useFree_windows : s.useFree.windows = s.windows := rfl
@[simp] theorem useFree_classes : s.useFree.classes = s.classes := rfl
@[simp] theorem useFree_queues : s.useFree.queues = s.queues := rfl
@[simp] theorem useFree_reservations : s.useFree.reservations = s.reservations := rfl
@[simp] theorem useFree_hold : s.useFree.hold = s.hold := rfl
@[simp] theorem useFree_mem : s.useFree.mem = s.mem := rfl
@[simp] theorem useFree_link : s.useFree.link = s.link := rfl
@[simp] theorem useFree_log : s.useFree.log = s.log := rfl
@[simp] theorem useFree_arbiterDue : s.useFree.arbiterDue = s.arbiterDue := rfl
@[simp] theorem useFree_freeUses : s.useFree.freeUses = s.freeUses + 1 := rfl
@[simp] theorem useFree_pending : s.useFree.pending = s.pending := rfl
@[simp] theorem useFree_queue (q : QueueId) : s.useFree.queue q = s.queue q := rfl

/-! ### setQueue and modifyQueue -/

@[simp] theorem setQueue_sys (q : QueueId) (x : Queue) : (s.setQueue q x).sys = s.sys := rfl
@[simp] theorem modifyQueue_sys (q : QueueId) (f : Queue → Queue) : (s.modifyQueue q f).sys = s.sys := rfl
@[simp] theorem setQueue_windows (q : QueueId) (x : Queue) : (s.setQueue q x).windows = s.windows := rfl
@[simp] theorem modifyQueue_windows (q : QueueId) (f : Queue → Queue) : (s.modifyQueue q f).windows = s.windows := rfl
@[simp] theorem setQueue_classes (q : QueueId) (x : Queue) : (s.setQueue q x).classes = s.classes := rfl
@[simp] theorem modifyQueue_classes (q : QueueId) (f : Queue → Queue) : (s.modifyQueue q f).classes = s.classes := rfl
@[simp] theorem setQueue_reservations (q : QueueId) (x : Queue) : (s.setQueue q x).reservations = s.reservations := rfl
@[simp] theorem modifyQueue_reservations (q : QueueId) (f : Queue → Queue) : (s.modifyQueue q f).reservations = s.reservations := rfl
@[simp] theorem setQueue_hold (q : QueueId) (x : Queue) : (s.setQueue q x).hold = s.hold := rfl
@[simp] theorem modifyQueue_hold (q : QueueId) (f : Queue → Queue) : (s.modifyQueue q f).hold = s.hold := rfl
@[simp] theorem setQueue_mem (q : QueueId) (x : Queue) : (s.setQueue q x).mem = s.mem := rfl
@[simp] theorem modifyQueue_mem (q : QueueId) (f : Queue → Queue) : (s.modifyQueue q f).mem = s.mem := rfl
@[simp] theorem setQueue_link (q : QueueId) (x : Queue) : (s.setQueue q x).link = s.link := rfl
@[simp] theorem modifyQueue_link (q : QueueId) (f : Queue → Queue) : (s.modifyQueue q f).link = s.link := rfl
@[simp] theorem setQueue_log (q : QueueId) (x : Queue) : (s.setQueue q x).log = s.log := rfl
@[simp] theorem modifyQueue_log (q : QueueId) (f : Queue → Queue) : (s.modifyQueue q f).log = s.log := rfl
@[simp] theorem setQueue_arbiterDue (q : QueueId) (x : Queue) : (s.setQueue q x).arbiterDue = s.arbiterDue := rfl
@[simp] theorem modifyQueue_arbiterDue (q : QueueId) (f : Queue → Queue) : (s.modifyQueue q f).arbiterDue = s.arbiterDue := rfl
@[simp] theorem setQueue_freeUses (q : QueueId) (x : Queue) : (s.setQueue q x).freeUses = s.freeUses := rfl
@[simp] theorem modifyQueue_freeUses (q : QueueId) (f : Queue → Queue) : (s.modifyQueue q f).freeUses = s.freeUses := rfl
@[simp] theorem setQueue_pending (q : QueueId) (x : Queue) : (s.setQueue q x).pending = s.pending := rfl
@[simp] theorem modifyQueue_pending (q : QueueId) (f : Queue → Queue) : (s.modifyQueue q f).pending = s.pending := rfl

@[simp] theorem setQueue_queue_same (q : QueueId) (x : Queue) : (s.setQueue q x).queue q = x := by
  simp [State.setQueue, State.queue]

theorem setQueue_queue (q p : QueueId) (x : Queue) :
    (s.setQueue q x).queue p = if p = q then x else s.queue p := by
  by_cases h : p = q
  · subst h
    simp
  · have h' : q.val ≠ p.val := fun e => h (Fin.ext e.symm)
    simp [State.setQueue, State.queue, h, Vector.getElem_set, h']

@[simp] theorem setQueue_queue_other {q p : QueueId} (h : p ≠ q) (x : Queue) :
    (s.setQueue q x).queue p = s.queue p := by simp [setQueue_queue, h]

@[simp] theorem modifyQueue_queue_same (q : QueueId) (f : Queue → Queue) :
    (s.modifyQueue q f).queue q = f (s.queue q) := by simp [State.modifyQueue]

theorem modifyQueue_queue (q p : QueueId) (f : Queue → Queue) :
    (s.modifyQueue q f).queue p = if p = q then f (s.queue q) else s.queue p := by
  simp [State.modifyQueue, setQueue_queue]

@[simp] theorem modifyQueue_queue_other {q p : QueueId} (h : p ≠ q) (f : Queue → Queue) :
    (s.modifyQueue q f).queue p = s.queue p := by simp [modifyQueue_queue, h]

/-- Two states with the same blocks and the same queue contexts are equal. -/
theorem queues_ext {a b : State} (h : ∀ q, a.queue q = b.queue q) : a.queues = b.queues := by
  apply Vector.ext
  intro i hi
  exact h ⟨i, hi⟩

/-- A property of every queue context, read off the vector of contexts. -/
theorem forall_queues_iff (p : Queue → Prop) : (∀ x ∈ s.queues.toList, p x) ↔ ∀ q, p (s.queue q) := by
  simp only [Vector.mem_toList_iff, Vector.mem_iff_getElem]
  constructor
  · intro h q
    exact h _ ⟨q.val, q.isLt, rfl⟩
  · rintro h x ⟨i, hi, rfl⟩
    exact h ⟨i, hi⟩

/-! ### clearOutputs -/

@[simp] theorem clearOutputs_windows : (s.clearOutputs).windows = s.windows := rfl
@[simp] theorem clearOutputs_classes : (s.clearOutputs).classes = s.classes := rfl
@[simp] theorem clearOutputs_queues : (s.clearOutputs).queues = s.queues := rfl
@[simp] theorem clearOutputs_reservations : (s.clearOutputs).reservations = s.reservations := rfl
@[simp] theorem clearOutputs_hold : (s.clearOutputs).hold = s.hold := rfl
@[simp] theorem clearOutputs_log : (s.clearOutputs).log = s.log := rfl
@[simp] theorem clearOutputs_arbiterDue : (s.clearOutputs).arbiterDue = s.arbiterDue := rfl
@[simp] theorem clearOutputs_freeUses : (s.clearOutputs).freeUses = s.freeUses := rfl
@[simp] theorem clearOutputs_pending : (s.clearOutputs).pending = s.pending := rfl
@[simp] theorem clearOutputs_queue (k : QueueId) : (s.clearOutputs).queue k = s.queue k := rfl

/-! ### appendLog -/

@[simp] theorem appendLog_sys (e : LogEntry) : (s.appendLog e).sys = s.sys := rfl
@[simp] theorem appendLog_windows (e : LogEntry) : (s.appendLog e).windows = s.windows := rfl
@[simp] theorem appendLog_classes (e : LogEntry) : (s.appendLog e).classes = s.classes := rfl
@[simp] theorem appendLog_queues (e : LogEntry) : (s.appendLog e).queues = s.queues := rfl
@[simp] theorem appendLog_reservations (e : LogEntry) : (s.appendLog e).reservations = s.reservations := rfl
@[simp] theorem appendLog_hold (e : LogEntry) : (s.appendLog e).hold = s.hold := rfl
@[simp] theorem appendLog_mem (e : LogEntry) : (s.appendLog e).mem = s.mem := rfl
@[simp] theorem appendLog_link (e : LogEntry) : (s.appendLog e).link = s.link := rfl
@[simp] theorem appendLog_arbiterDue (e : LogEntry) : (s.appendLog e).arbiterDue = s.arbiterDue := rfl
@[simp] theorem appendLog_freeUses (e : LogEntry) : (s.appendLog e).freeUses = s.freeUses := rfl
@[simp] theorem appendLog_pending (e : LogEntry) : (s.appendLog e).pending = s.pending := rfl
@[simp] theorem appendLog_queue (e : LogEntry) (k : QueueId) : (s.appendLog e).queue k = s.queue k := rfl

/-! ### setTransaction -/

@[simp] theorem setTransaction_windows (x : Transaction) : (s.setTransaction x).windows = s.windows := rfl
@[simp] theorem setTransaction_classes (x : Transaction) : (s.setTransaction x).classes = s.classes := rfl
@[simp] theorem setTransaction_queues (x : Transaction) : (s.setTransaction x).queues = s.queues := rfl
@[simp] theorem setTransaction_reservations (x : Transaction) : (s.setTransaction x).reservations = s.reservations := rfl
@[simp] theorem setTransaction_hold (x : Transaction) : (s.setTransaction x).hold = s.hold := rfl
@[simp] theorem setTransaction_mem (x : Transaction) : (s.setTransaction x).mem = s.mem := rfl
@[simp] theorem setTransaction_link (x : Transaction) : (s.setTransaction x).link = s.link := rfl
@[simp] theorem setTransaction_log (x : Transaction) : (s.setTransaction x).log = s.log := rfl
@[simp] theorem setTransaction_arbiterDue (x : Transaction) : (s.setTransaction x).arbiterDue = s.arbiterDue := rfl
@[simp] theorem setTransaction_freeUses (x : Transaction) : (s.setTransaction x).freeUses = s.freeUses := rfl
@[simp] theorem setTransaction_pending (x : Transaction) : (s.setTransaction x).pending = s.pending := rfl
@[simp] theorem setTransaction_queue (x : Transaction) (k : QueueId) : (s.setTransaction x).queue k = s.queue k := rfl

/-! ### sendResponse -/

@[simp] theorem sendResponse_windows (x : Transaction) (a : Answer) : (s.sendResponse x a).windows = s.windows := rfl
@[simp] theorem sendResponse_classes (x : Transaction) (a : Answer) : (s.sendResponse x a).classes = s.classes := rfl
@[simp] theorem sendResponse_queues (x : Transaction) (a : Answer) : (s.sendResponse x a).queues = s.queues := rfl
@[simp] theorem sendResponse_reservations (x : Transaction) (a : Answer) : (s.sendResponse x a).reservations = s.reservations := rfl
@[simp] theorem sendResponse_hold (x : Transaction) (a : Answer) : (s.sendResponse x a).hold = s.hold := rfl
@[simp] theorem sendResponse_mem (x : Transaction) (a : Answer) : (s.sendResponse x a).mem = s.mem := rfl
@[simp] theorem sendResponse_link (x : Transaction) (a : Answer) : (s.sendResponse x a).link = s.link := rfl
@[simp] theorem sendResponse_log (x : Transaction) (a : Answer) : (s.sendResponse x a).log = s.log := rfl
@[simp] theorem sendResponse_arbiterDue (x : Transaction) (a : Answer) : (s.sendResponse x a).arbiterDue = s.arbiterDue := rfl
@[simp] theorem sendResponse_freeUses (x : Transaction) (a : Answer) : (s.sendResponse x a).freeUses = s.freeUses := rfl
@[simp] theorem sendResponse_pending (x : Transaction) (a : Answer) : (s.sendResponse x a).pending = s.pending := rfl
@[simp] theorem sendResponse_queue (x : Transaction) (a : Answer) (k : QueueId) : (s.sendResponse x a).queue k = s.queue k := rfl

/-! ### present -/

@[simp] theorem present_sys (rs : List MemRequest) : (s.present rs).sys = s.sys := rfl
@[simp] theorem present_windows (rs : List MemRequest) : (s.present rs).windows = s.windows := rfl
@[simp] theorem present_classes (rs : List MemRequest) : (s.present rs).classes = s.classes := rfl
@[simp] theorem present_queues (rs : List MemRequest) : (s.present rs).queues = s.queues := rfl
@[simp] theorem present_reservations (rs : List MemRequest) : (s.present rs).reservations = s.reservations := rfl
@[simp] theorem present_hold (rs : List MemRequest) : (s.present rs).hold = s.hold := rfl
@[simp] theorem present_link (rs : List MemRequest) : (s.present rs).link = s.link := rfl
@[simp] theorem present_log (rs : List MemRequest) : (s.present rs).log = s.log := rfl
@[simp] theorem present_arbiterDue (rs : List MemRequest) : (s.present rs).arbiterDue = s.arbiterDue := rfl
@[simp] theorem present_freeUses (rs : List MemRequest) : (s.present rs).freeUses = s.freeUses := rfl
@[simp] theorem present_pending (rs : List MemRequest) : (s.present rs).pending = s.pending := rfl
@[simp] theorem present_queue (rs : List MemRequest) (k : QueueId) : (s.present rs).queue k = s.queue k := rfl

/-! ### setEntry -/

@[simp] theorem setEntry_sys (x : Entry) : (s.setEntry x).sys = s.sys := rfl
@[simp] theorem setEntry_windows (x : Entry) : (s.setEntry x).windows = s.windows := rfl
@[simp] theorem setEntry_classes (x : Entry) : (s.setEntry x).classes = s.classes := rfl
@[simp] theorem setEntry_queues (x : Entry) : (s.setEntry x).queues = s.queues := rfl
@[simp] theorem setEntry_hold (x : Entry) : (s.setEntry x).hold = s.hold := rfl
@[simp] theorem setEntry_mem (x : Entry) : (s.setEntry x).mem = s.mem := rfl
@[simp] theorem setEntry_link (x : Entry) : (s.setEntry x).link = s.link := rfl
@[simp] theorem setEntry_log (x : Entry) : (s.setEntry x).log = s.log := rfl
@[simp] theorem setEntry_arbiterDue (x : Entry) : (s.setEntry x).arbiterDue = s.arbiterDue := rfl
@[simp] theorem setEntry_freeUses (x : Entry) : (s.setEntry x).freeUses = s.freeUses := rfl
@[simp] theorem setEntry_pending (x : Entry) : (s.setEntry x).pending = s.pending := rfl
@[simp] theorem setEntry_queue (x : Entry) (k : QueueId) : (s.setEntry x).queue k = s.queue k := rfl

/-! ### freeEntry -/

@[simp] theorem freeEntry_sys (x : Entry) : (s.freeEntry x).sys = s.sys := rfl
@[simp] theorem freeEntry_windows (x : Entry) : (s.freeEntry x).windows = s.windows := rfl
@[simp] theorem freeEntry_classes (x : Entry) : (s.freeEntry x).classes = s.classes := rfl
@[simp] theorem freeEntry_queues (x : Entry) : (s.freeEntry x).queues = s.queues := rfl
@[simp] theorem freeEntry_hold (x : Entry) : (s.freeEntry x).hold = s.hold := rfl
@[simp] theorem freeEntry_mem (x : Entry) : (s.freeEntry x).mem = s.mem := rfl
@[simp] theorem freeEntry_link (x : Entry) : (s.freeEntry x).link = s.link := rfl
@[simp] theorem freeEntry_log (x : Entry) : (s.freeEntry x).log = s.log := rfl
@[simp] theorem freeEntry_arbiterDue (x : Entry) : (s.freeEntry x).arbiterDue = s.arbiterDue := rfl
@[simp] theorem freeEntry_freeUses (x : Entry) : (s.freeEntry x).freeUses = s.freeUses := rfl
@[simp] theorem freeEntry_pending (x : Entry) : (s.freeEntry x).pending = s.pending := rfl
@[simp] theorem freeEntry_queue (x : Entry) (k : QueueId) : (s.freeEntry x).queue k = s.queue k := rfl

/-! ### setWaiters -/

@[simp] theorem setWaiters_sys (q : QueueId) (side : Side) (ws : List Waiter) : (s.setWaiters q side ws).sys = s.sys := rfl
@[simp] theorem setWaiters_windows (q : QueueId) (side : Side) (ws : List Waiter) : (s.setWaiters q side ws).windows = s.windows := rfl
@[simp] theorem setWaiters_classes (q : QueueId) (side : Side) (ws : List Waiter) : (s.setWaiters q side ws).classes = s.classes := rfl
@[simp] theorem setWaiters_reservations (q : QueueId) (side : Side) (ws : List Waiter) : (s.setWaiters q side ws).reservations = s.reservations := rfl
@[simp] theorem setWaiters_hold (q : QueueId) (side : Side) (ws : List Waiter) : (s.setWaiters q side ws).hold = s.hold := rfl
@[simp] theorem setWaiters_mem (q : QueueId) (side : Side) (ws : List Waiter) : (s.setWaiters q side ws).mem = s.mem := rfl
@[simp] theorem setWaiters_link (q : QueueId) (side : Side) (ws : List Waiter) : (s.setWaiters q side ws).link = s.link := rfl
@[simp] theorem setWaiters_log (q : QueueId) (side : Side) (ws : List Waiter) : (s.setWaiters q side ws).log = s.log := rfl
@[simp] theorem setWaiters_arbiterDue (q : QueueId) (side : Side) (ws : List Waiter) : (s.setWaiters q side ws).arbiterDue = s.arbiterDue := rfl
@[simp] theorem setWaiters_freeUses (q : QueueId) (side : Side) (ws : List Waiter) : (s.setWaiters q side ws).freeUses = s.freeUses := rfl
@[simp] theorem setWaiters_pending (q : QueueId) (side : Side) (ws : List Waiter) : (s.setWaiters q side ws).pending = s.pending := rfl

/-! ### what the outputs hold after clearOutputs -/

@[simp] theorem clearOutputs_tracker : s.clearOutputs.sys.tracker = s.sys.tracker := rfl
@[simp] theorem clearOutputs_arrivals : s.clearOutputs.sys.arrivals = s.sys.arrivals := rfl
@[simp] theorem clearOutputs_sent : s.clearOutputs.sys.sent = [] := rfl
@[simp] theorem clearOutputs_waiting : s.clearOutputs.mem.waiting = s.mem.waiting := rfl
@[simp] theorem clearOutputs_passed : s.clearOutputs.mem.passed = s.mem.passed := rfl
@[simp] theorem clearOutputs_handed : s.clearOutputs.mem.handed = [] := rfl
@[simp] theorem clearOutputs_request : s.clearOutputs.link.request = s.link.request := rfl
@[simp] theorem clearOutputs_slot : s.clearOutputs.link.slot = s.link.slot := rfl
@[simp] theorem clearOutputs_softReset : s.clearOutputs.link.softReset = s.link.softReset := rfl
@[simp] theorem clearOutputs_ignorePeriod : s.clearOutputs.link.ignorePeriod = s.link.ignorePeriod := rfl
@[simp] theorem clearOutputs_transaction (r : Requester) (t : Tag) :
    s.clearOutputs.transaction r t = s.transaction r t := rfl

/-! ### setEntry, freeEntry, present, setTransaction and sendResponse -/

@[simp] theorem setEntry_reservations (x : Entry) :
    (s.setEntry x).reservations = s.reservations.map (fun y => if x.same y then x else y) := rfl
@[simp] theorem setEntry_reservations_length (x : Entry) :
    (s.setEntry x).reservations.length = s.reservations.length := by simp
@[simp] theorem freeEntry_reservations (x : Entry) :
    (s.freeEntry x).reservations = s.reservations.filter (fun y => !x.same y) := rfl
@[simp] theorem present_waiting (rs : List MemRequest) : (s.present rs).mem.waiting = s.mem.waiting ++ rs := rfl
@[simp] theorem present_passed (rs : List MemRequest) : (s.present rs).mem.passed = s.mem.passed := rfl
@[simp] theorem present_handed (rs : List MemRequest) : (s.present rs).mem.handed = s.mem.handed := rfl
@[simp] theorem setTransaction_arrivals (x : Transaction) : (s.setTransaction x).sys.arrivals = s.sys.arrivals := rfl
@[simp] theorem setTransaction_sent (x : Transaction) : (s.setTransaction x).sys.sent = s.sys.sent := rfl
@[simp] theorem setTransaction_tracker_length (x : Transaction) :
    (s.setTransaction x).sys.tracker.length = s.sys.tracker.length := by simp [State.setTransaction]
@[simp] theorem sendResponse_arrivals (x : Transaction) (a : Answer) :
    (s.sendResponse x a).sys.arrivals = s.sys.arrivals := rfl
theorem sendResponse_sent (x : Transaction) (a : Answer) :
    (s.sendResponse x a).sys.sent =
      s.sys.sent ++ [⟨x.request.requester, x.request.tag, a.status, a.data⟩] := rfl
theorem setWaiters_queue_same (q : QueueId) (side : Side) (ws : List Waiter) :
    (s.setWaiters q side ws).queue q = (s.queue q).withWaiters side ws := by simp [State.setWaiters]
theorem setWaiters_queue (q p : QueueId) (side : Side) (ws : List Waiter) :
    (s.setWaiters q side ws).queue p = if p = q then (s.queue q).withWaiters side ws else s.queue p := by
  simp [State.setWaiters, modifyQueue_queue]

/-! ### what reset holds -/

@[simp] theorem reset_queue (q : QueueId) : State.reset.queue q = Queue.reset := by
  simp [State.reset, State.queue]

end Sys2Proof.Machine.Laws
end

