-- ==== Sys2Proof/Laws/Ops.lean ====
section
/-! SUPPORT. For each shared operation, what it does, said once: the answers, the end of a command, taking a request. -/

namespace Sys2Proof.Machine.Laws

open Sys2Proof.Machine

variable (s : State)

/-! ### The end of a command -/

/-- A command that sends no response and does not meet the soft-reset completion condition ends as it is. -/
theorem finish_of_no_response (h : s.sys.sent = []) (hd : s.softResetDone = false) : s.finish = s := by
  simp [State.finish, h, hd]

theorem softResetDone_of_clear (h : s.link.softReset = false) : s.softResetDone = false := by
  simp [State.softResetDone, h]

theorem softResetDone_of_tracked (h : s.sys.tracker ≠ []) : s.softResetDone = false := by
  simp [State.softResetDone, h]

theorem takePresented_of_no_arrival (h : s.sys.arrivals = []) : s.takePresented = s := by
  simp [State.takePresented, State.takeFrom, h]

/-- With nothing stalled and no soft reset in progress, a command ends as it is. -/
theorem finish_of_no_arrival (h : s.sys.arrivals = []) (hr : s.link.softReset = false) : s.finish = s := by
  simp [State.finish, State.softResetDone, hr, takePresented_of_no_arrival s h]

/-! ### Transactions -/

theorem named_iff (x : Transaction) (r : Requester) (t : Tag) :
    x.named r t = true ↔ x.request.requester = r ∧ x.request.tag = t := by simp [Transaction.named]

/-- The transaction of a requester and tag holds them. -/
theorem transaction_named {s : State} {r : Requester} {t : Tag} {x : Transaction} (h : s.transaction r t = some x) :
    x.request.requester = r ∧ x.request.tag = t := by
  have := List.find?_some h
  simpa [Transaction.named] using this

theorem transaction_mem {s : State} {r : Requester} {t : Tag} {x : Transaction} (h : s.transaction r t = some x) :
    x ∈ s.sys.tracker := List.mem_of_find?_eq_some h

theorem tracker_ne_nil {s : State} {r : Requester} {t : Tag} {x : Transaction} (h : s.transaction r t = some x) :
    s.sys.tracker ≠ [] := List.ne_nil_of_mem (transaction_mem h)

/-- After the entry of a requester and tag is replaced, it is found. -/
theorem transaction_setTransaction_same {s : State} {r : Requester} {t : Tag} {x y : Transaction}
    (h : s.transaction r t = some x) (hr : y.request.requester = r) (ht : y.request.tag = t) :
    (s.setTransaction y).transaction r t = some y := by
  have hy : y.named r t = true := (named_iff _ _ _).2 ⟨hr, ht⟩
  have key : ∀ l : List Transaction, l.find? (fun z => z.named r t) = some x →
      (l.map (fun z => if z.named r t then y else z)).find? (fun z => z.named r t) = some y := by
    intro l
    induction l with
    | nil => simp
    | cons z zs ih =>
      intro hl
      cases hz : z.named r t with
      | true => simp [hz, hy]
      | false =>
        rw [List.find?_cons, hz] at hl
        rw [List.map_cons, List.find?_cons]
        simp only [hz, Bool.false_eq_true, if_false]
        exact ih hl
  simp only [State.transaction, State.setTransaction, withSys_sys, hr, ht]
  exact key _ h

/-! ### Answers -/

/-- An answer whose beats are in is sent, and the tracker entry freed (R138). -/
theorem answer_sent {s : State} {r : Requester} {t : Tag} {x : Transaction} (h : s.transaction r t = some x)
    (hn : x.answer = none) (hb : x.beatsIn = true) (status : Status) (reason : Option Reason) (data : List Word) :
    s.answer r t status reason data = s.withSys { s.sys with
      tracker := s.sys.tracker.filter (fun y => !y.named r t)
      sent := s.sys.sent ++ [⟨r, t, status, answerData x.request status data⟩] } := by
  obtain ⟨hr, ht⟩ := transaction_named h
  simp [State.answer, h, hn, hb, State.sendResponse, hr, ht]

/-- A write answered before its beats are in keeps its answer and drops its beats (R137, R138). -/
theorem answer_kept {s : State} {r : Requester} {t : Tag} {x : Transaction} (h : s.transaction r t = some x)
    (hn : x.answer = none) (hb : x.beatsIn = false) (status : Status) (reason : Option Reason) (data : List Word) :
    s.answer r t status reason data = s.setTransaction
      { x with answer := some ⟨status, reason, answerData x.request status data⟩, beatMode := some .dropping } := by
  simp [State.answer, h, hn, hb]

/-- A second answer is never given (R134). -/
theorem answer_twice {s : State} {r : Requester} {t : Tag} {x : Transaction} {a : Answer} (h : s.transaction r t = some x)
    (hn : x.answer = some a) (status : Status) (reason : Option Reason) (data : List Word) :
    s.answer r t status reason data = s := by
  simp [State.answer, h, hn]

end Sys2Proof.Machine.Laws
end

