-- ==== Sys2Proof/Laws/Frames.lean ====
section
/-! SUPPORT. What the shared operations leave as it was: answers touch only the tracker, the responses and the log; a grant
touches one queue, the Reservation Table or the waiting requests; and what each test and trigger can do, case by case. -/

namespace Sys2Proof.Machine.Laws

open Sys2Proof.Machine

/-! ### Answers -/

/-- t differs from s at most in the tracker, the responses and the log. -/
structure AnswersOnly (s t : State) : Prop where
  arrivals     : t.sys.arrivals = s.sys.arrivals
  windows      : t.windows = s.windows
  classes      : t.classes = s.classes
  queues       : t.queues = s.queues
  reservations : t.reservations = s.reservations
  hold         : t.hold = s.hold
  mem          : t.mem = s.mem
  link         : t.link = s.link
  arbiterDue   : t.arbiterDue = s.arbiterDue
  freeUses     : t.freeUses = s.freeUses
  pending      : t.pending = s.pending

theorem AnswersOnly.refl (s : State) : AnswersOnly s s := ⟨rfl, rfl, rfl, rfl, rfl, rfl, rfl, rfl, rfl, rfl, rfl⟩

theorem AnswersOnly.trans {s t u : State} (h : AnswersOnly s t) (k : AnswersOnly t u) : AnswersOnly s u :=
  ⟨k.arrivals.trans h.arrivals, k.windows.trans h.windows, k.classes.trans h.classes, k.queues.trans h.queues,
    k.reservations.trans h.reservations, k.hold.trans h.hold, k.mem.trans h.mem, k.link.trans h.link,
    k.arbiterDue.trans h.arbiterDue, k.freeUses.trans h.freeUses, k.pending.trans h.pending⟩

theorem AnswersOnly.queue {s t : State} (h : AnswersOnly s t) (q : QueueId) : t.queue q = s.queue q := by
  simp only [State.queue, h.queues]

theorem AnswersOnly.entriesOf {s t : State} (h : AnswersOnly s t) (q : QueueId) : t.entriesOf q = s.entriesOf q := by
  simp only [State.entriesOf, h.reservations]

theorem answersOnly_appendLog (s : State) (e : LogEntry) : AnswersOnly s (s.appendLog e) :=
  ⟨rfl, rfl, rfl, rfl, rfl, rfl, rfl, rfl, rfl, rfl, rfl⟩

theorem answersOnly_answer (s : State) (r : Requester) (t : Tag) (st : Status) (reason : Option Reason) (data : List Word) :
    AnswersOnly s (s.answer r t st reason data) := by
  unfold State.answer
  split
  · exact .refl s
  · dsimp only
    split
    · exact .refl s
    · split <;> exact ⟨rfl, rfl, rfl, rfl, rfl, rfl, rfl, rfl, rfl, rfl, rfl⟩

theorem answersOnly_answerOk (s : State) (r : Requester) (t : Tag) (data : List Word) :
    AnswersOnly s (s.answerOk r t data) := answersOnly_answer s r t .ok none data

theorem answersOnly_decline (s : State) (r : Requester) (t : Tag) (e : LogEntry) : AnswersOnly s (s.decline r t e) :=
  (answersOnly_appendLog s e).trans (answersOnly_answer _ _ _ _ _ _)

theorem answersOnly_declineQueue (s : State) (q : QueueId) (r : Requester) (t : Tag) (reason : Reason) :
    AnswersOnly s (s.declineQueue q r t reason) := answersOnly_decline s r t _

theorem answersOnly_declineAddress (s : State) (x : Request) (reason : Reason) :
    AnswersOnly s (s.declineAddress x reason) := answersOnly_decline s _ _ _

theorem answersOnly_retry (s : State) (q : QueueId) (r : Requester) (t : Tag) (reason : Reason) :
    AnswersOnly s (s.retry q r t reason) := by
  unfold State.retry
  dsimp only
  split
  · exact (answersOnly_appendLog s _).trans (answersOnly_answer _ _ _ _ _ _)
  · exact answersOnly_answer _ _ _ _ _ _

theorem answersOnly_setBeatMode (s : State) (r : Requester) (t : Tag) (m : BeatMode) :
    AnswersOnly s (s.setBeatMode r t m) := by
  unfold State.setBeatMode
  split
  · exact .refl s
  · exact ⟨rfl, rfl, rfl, rfl, rfl, rfl, rfl, rfl, rfl, rfl, rfl⟩

theorem answersOnly_declineWaiters (q : QueueId) (reason : Reason) (ws : List Waiter) (s : State) :
    AnswersOnly s (s.declineWaiters q reason ws) := by
  induction ws generalizing s with
  | nil => exact .refl s
  | cons w ws ih => exact (answersOnly_declineQueue s q w.requester w.tag reason).trans (ih _)

theorem answersOnly_declineHeader (s : State) (e : Entry) : AnswersOnly s (s.declineHeader e) := by
  unfold State.declineHeader
  split
  · exact answersOnly_decline s _ _ _
  · exact answersOnly_appendLog s _

theorem answersOnly_answerStored (s : State) (e : Entry) : AnswersOnly s (s.answerStored e) := by
  unfold State.answerStored
  split
  · exact answersOnly_answerOk s _ _ _
  · exact .refl s

/-! ### Releases -/

/-- The release of a list empties it and touches no other field of any queue. -/
theorem releaseList_queues (s : State) (q : QueueId) (side : Side) (reason : Reason) :
    (s.releaseList q side reason).queues = (s.setWaiters q side []).queues :=
  (answersOnly_declineWaiters q reason _ _).queues

theorem releaseList_queue_same (s : State) (q : QueueId) (side : Side) (reason : Reason) :
    (s.releaseList q side reason).queue q = (s.queue q).withWaiters side [] := by
  refine ((answersOnly_declineWaiters q reason _ _).queue _).trans ?_
  simp [State.setWaiters]

theorem releaseList_queue_other (s : State) {p q : QueueId} (side : Side) (reason : Reason) (h : p ≠ q) :
    (s.releaseList q side reason).queue p = s.queue p := by
  refine ((answersOnly_declineWaiters q reason _ _).queue _).trans ?_
  simp [State.setWaiters, h]

theorem releaseList_reservations (s : State) (q : QueueId) (side : Side) (reason : Reason) :
    (s.releaseList q side reason).reservations = s.reservations :=
  (answersOnly_declineWaiters q reason _ _).reservations

theorem releaseAll_queue_same (s : State) (q : QueueId) (reason : Reason) :
    (s.releaseAll q reason).queue q = { s.queue q with pushWaiters := [], popWaiters := [] } := by
  rw [State.releaseAll, releaseList_queue_same, releaseList_queue_same]
  rfl

theorem releaseAll_queue_other (s : State) {p q : QueueId} (reason : Reason) (h : p ≠ q) :
    (s.releaseAll q reason).queue p = s.queue p := by
  rw [State.releaseAll, releaseList_queue_other _ _ _ h, releaseList_queue_other _ _ _ h]

theorem releaseAll_reservations (s : State) (q : QueueId) (reason : Reason) :
    (s.releaseAll q reason).reservations = s.reservations := by
  rw [State.releaseAll, releaseList_reservations, releaseList_reservations]

/-! ### STOP and the soft reset -/

/-- Resolving the entries that a STOP leaves ready touches the tracker, the responses, the log and the Reservation Table alone. -/
theorem resolveStopped_frame (es : List Entry) (s : State) :
    (es.foldl State.resolveStopped s).queues = s.queues ∧ (es.foldl State.resolveStopped s).mem = s.mem ∧
      (es.foldl State.resolveStopped s).link = s.link ∧ (es.foldl State.resolveStopped s).pending = s.pending := by
  induction es generalizing s with
  | nil => exact ⟨rfl, rfl, rfl, rfl⟩
  | cons e es ih =>
    have h := answersOnly_decline s e.requester e.tag e.abandonedLog
    obtain ⟨hq, hm, hl, hp⟩ := ih (s.resolveStopped e)
    exact ⟨hq.trans h.queues, hm.trans h.mem, hl.trans h.link, hp.trans h.pending⟩

/-- Steps 1 to 3 of R95 leave the queue in STOPPING, without a fault reason and without waiters. -/
theorem stopActs_queue_same (s : State) (q : QueueId) :
    (s.stopActs q).queue q = { s.queue q with state := .stopping, faultReason := none, pushWaiters := [], popWaiters := [] } := by
  unfold State.stopActs State.queue
  rw [State.resolveReady, (resolveStopped_frame _ _).1]
  change (((s.modifyQueue q Queue.stopping).releaseAll q .state).queue q) = _
  rw [releaseAll_queue_same, modifyQueue_queue_same]
  rfl

theorem stopActs_queue_other (s : State) {p q : QueueId} (h : p ≠ q) : (s.stopActs q).queue p = s.queue p := by
  unfold State.stopActs State.queue
  rw [State.resolveReady, (resolveStopped_frame _ _).1]
  change (((s.modifyQueue q Queue.stopping).releaseAll q .state).queue p) = _
  rw [releaseAll_queue_other _ _ h, modifyQueue_queue_other _ h]
  rfl

/-- A soft reset leaves a queue that is STOPPED or STOPPING as it is, and gives any other the STOP of R95 up to the arbiter. -/
theorem softResetStop_cases (s : State) (q : QueueId) :
    ((s.queue q).state = .stopped ∨ (s.queue q).state = .stopping) ∧ s.softResetStop q = s ∨
      ((s.queue q).state ≠ .stopped ∧ (s.queue q).state ≠ .stopping) ∧ s.softResetStop q = (s.stopActs q).testStop q := by
  unfold State.softResetStop
  cases (s.queue q).state <;> simp

/-- The arbiter runs for the freed entries of an event exactly where it has freed one. -/
theorem arbitrateIfFreed_cases (s t : State) :
    (t.reservations.length < s.reservations.length ∧ s.arbitrateIfFreed t = t.entryFreed) ∨
      (s.reservations.length ≤ t.reservations.length ∧ s.arbitrateIfFreed t = t) := by
  unfold State.arbitrateIfFreed
  split
  · exact .inl ⟨‹_›, rfl⟩
  · exact .inr ⟨Nat.le_of_not_lt ‹_›, rfl⟩

/-! ### Grants -/

/-- A push grant: the new entry, the reserve position and the next sequence, and the beat mode of the transaction. -/
theorem grantPush_reservations (s : State) (q : QueueId) (r : Requester) (t : Tag) (L : BurstLength) :
    (s.grantPush q r t L).reservations = s.reservations ++ [newEntry q (s.queue q) r t L] :=
  (answersOnly_setBeatMode _ _ _ _).reservations

theorem grantPush_queue_same (s : State) (q : QueueId) (r : Requester) (t : Tag) (L : BurstLength) :
    (s.grantPush q r t L).queue q = { s.queue q with
      reserve := advance (s.queue q).reserve (recordWords L)
      nextSequence := (s.queue q).nextSequence + 1 } := by
  refine ((answersOnly_setBeatMode _ _ _ _).queue _).trans ?_
  simp

theorem grantPush_queue_other (s : State) {p q : QueueId} (r : Requester) (t : Tag) (L : BurstLength) (h : p ≠ q) :
    (s.grantPush q r t L).queue p = s.queue p := by
  refine ((answersOnly_setBeatMode _ _ _ _).queue _).trans ?_
  simp [h]

/-- A pop grant touches one queue and the requests waiting at the arbiter. -/
theorem grantPop_queue_other (s : State) {p q : QueueId} (r : Requester) (t : Tag) (L : BurstLength) (h : p ≠ q) :
    (s.grantPop q r t L).queue p = s.queue p := by
  simp [State.grantPop, h]

theorem grantPop_reservations (s : State) (q : QueueId) (r : Requester) (t : Tag) (L : BurstLength) :
    (s.grantPop q r t L).reservations = s.reservations := rfl

/-! ### Tests and triggers -/

/-- The notice check leaves the state, or disarms the notice and issues its write. -/
theorem noticeCheck_cases (s : State) (q : QueueId) :
    ((s.queue q).noticeFires = false ∧ s.noticeCheck q = s) ∨
      ((s.queue q).noticeFires = true ∧ s.noticeCheck q =
        (s.setQueue q { s.queue q with
          noticeArmed := false
          notices := (s.queue q).notices ++ [⟨(s.queue q).config.noticeAddress, (s.queue q).config.noticeValue⟩] }).present
          [wholeWrite (.notice q) (s.queue q).config.noticeAddress [(s.queue q).config.noticeValue]]) := by
  unfold State.noticeCheck
  cases h : (s.queue q).noticeFires <;> simp [h]

/-- The drain test leaves the state, or brings the queue to STOPPED. -/
theorem testDrain_cases (s : State) (q : QueueId) :
    (s.drainComplete q = false ∧ s.testDrain q = s) ∨
      (s.drainComplete q = true ∧ s.testDrain q = s.setQueue q (s.queue q).arrived) := by
  unfold State.testDrain
  cases s.drainComplete q <;> simp [State.modifyQueue]

/-- The stop test leaves the state, or brings the queue to STOPPED. -/
theorem testStop_cases (s : State) (q : QueueId) :
    (s.stopComplete q = false ∧ s.testStop q = s) ∨
      (s.stopComplete q = true ∧ s.testStop q = s.setQueue q (s.queue q).arrived) := by
  unfold State.testStop
  cases s.stopComplete q <;> simp [State.modifyQueue]

/-- A fault trigger moves a queue in RUNNING or DRAINING, and no other. -/
theorem faultTrigger_cases (s : State) (q : QueueId) (reason : FaultReason) :
    (((s.queue q).state = .running ∨ (s.queue q).state = .draining) ∧ s.faultTrigger q reason = s.enterFaulted q reason) ∨
      (((s.queue q).state = .stopped ∨ (s.queue q).state = .stopping ∨ (s.queue q).state = .faulted) ∧
        s.faultTrigger q reason = s) := by
  unfold State.faultTrigger
  cases h : (s.queue q).state <;> simp

/-- The queue that enters FAULTED. -/
theorem enterFaulted_queue_same (s : State) (q : QueueId) (reason : FaultReason) :
    (s.enterFaulted q reason).queue q = { s.queue q with
      state := .faulted
      faultReason := some reason
      resume := (s.queue q).state.toResume
      pushWaiters := []
      popWaiters := [] } := by
  rw [State.enterFaulted, releaseAll_queue_same, (answersOnly_appendLog _ _).queue]
  simp

theorem enterFaulted_queue_other (s : State) {p q : QueueId} (reason : FaultReason) (h : p ≠ q) :
    (s.enterFaulted q reason).queue p = s.queue p := by
  rw [State.enterFaulted, releaseAll_queue_other _ _ h, (answersOnly_appendLog _ _).queue]
  simp [h]

theorem enterFaulted_reservations (s : State) (q : QueueId) (reason : FaultReason) :
    (s.enterFaulted q reason).reservations = s.reservations := by
  rw [State.enterFaulted, releaseAll_reservations]
  rfl

/-! ### Freed entries and expiries -/

/-- A freed entry starts nothing, starts the arbiter, before or after the presented request is taken, or puts the arbiter's run
off behind the push that the next command brings (R36, R37). -/
theorem entryFreed_cases (s : State) :
    (s.noPushWaiter = true ∧ s.entryFreed = s) ∨
      (s.noPushWaiter = false ∧
        (s.entryFreed = s.arbitrate ∨ s.entryFreed = s.useFree.arbitrate ∨
          (s.presentedTakes = true ∧ s.entryFreed = s.useFree.takePresented.arbitrate) ∨
          (s.pushArriving = true ∧ s.entryFreed = s.useFree.withArbiterDue true))) := by
  unfold State.entryFreed
  cases s.noPushWaiter <;> cases s.presentedTakes <;> cases s.pushArriving <;>
    cases Config.takeBeforeArbiter s.freeUses <;> simp

/-- A push arrives only with a TAKE_REQUEST at the front of the queue, and nothing stalled before it (R37). -/
theorem pushArriving_pending {s : State} (h : s.pushArriving = true) :
    ∃ q rest, s.pending = .takeRequest q :: rest ∧ s.sys.arrivals = [] ∧ s.canTake q = true ∧ s.contends q = true := by
  unfold State.pushArriving at h
  split at h
  · rename_i q rest hp
    simp at h
    exact ⟨q, rest, hp, h.1.1, h.1.2, h.2⟩
  · simp at h

theorem presentAndArbitrate_of_not_due {s : State} (q : Request) (h : s.arbiterDue = false) :
    s.presentAndArbitrate q = s.presentRequest q := by simp [State.presentAndArbitrate, h]

theorem presentAndArbitrate_of_due {s : State} (q : Request) (h : s.arbiterDue = true) :
    s.presentAndArbitrate q = ((s.withArbiterDue false).presentRequest q).arbitrate := by
  simp [State.presentAndArbitrate, h]

/-- An expiry does nothing, or is that of a held request that no other precedes (R81, R82). -/
theorem expire_cases (s : State) (r : Requester) (t : Tag) :
    s.expire r t = s ∨
      ∃ h, s.heldRequest r t = some h ∧ s.firstDue h = true ∧ s.expire r t = (s.expireHeld h).finish := by
  unfold State.expire
  cases s.heldRequest r t with
  | none => exact .inl rfl
  | some h => cases hf : s.firstDue h <;> simp [hf]

end Sys2Proof.Machine.Laws
end

