-- ==== Sys2Proof/Laws/Link.lean ====
section
/-! SUPPORT. What executing a pending request does, said once for all rows of the management link (R155), and the bits and bytes
of a select period (R151). -/

namespace Sys2Proof.Machine.Laws

open Sys2Proof Sys2Proof.Machine

variable {s : State}

@[simp] theorem executed_queue (r : Result) (b : Bool) (p : List Byte) (q : QueueId) :
    (s.executed b r p).queue q = s.queue q := rfl
@[simp] theorem executed_sys (r : Result) (b : Bool) (p : List Byte) : (s.executed b r p).sys = s.sys := rfl
@[simp] theorem executed_mem (r : Result) (b : Bool) (p : List Byte) : (s.executed b r p).mem = s.mem := rfl
@[simp] theorem executed_log (r : Result) (b : Bool) (p : List Byte) : (s.executed b r p).log = s.log := rfl
@[simp] theorem executed_reservations (r : Result) (b : Bool) (p : List Byte) :
    (s.executed b r p).reservations = s.reservations := rfl
@[simp] theorem executed_softReset (r : Result) (b : Bool) (p : List Byte) :
    (s.executed b r p).link.softReset = s.link.softReset := rfl

/-- The pending request executes, outside a soft reset, when the row of its command is taken. -/
theorem execute_asks {c : Command} {payload : List Byte} {b : Bool} (h : s.asks c payload b)
    (f : State → List Byte → Executed) :
    s.clearOutputs.execute c f =
      (f s.clearOutputs payload).state.executed b (f s.clearOutputs payload).result (f s.clearOutputs payload).payload := by
  obtain ⟨h1, h2⟩ := h
  simp only [State.execute, clearOutputs_request, h1, State.executeWith, clearOutputs_softReset, h2]
  simp [State.executed, Link.respond]

/-- The index byte of queue q is read back as q. -/
theorem indexOf_byteOf (q : QueueId) (bs : List Byte) : indexOf 16 (field (byteOf q.val :: bs) 0 1) = some q := by
  have h : (byteOf q.val).toNat = q.val := by simp [byteOf]; omega
  simp [field, leNat, indexOf, h]

/-- The action byte of an action is read back as it. -/
theorem ofCode_code (a : QueueAction) (b : Byte) : QueueAction.ofCode (field [b, a.code] 1 1) = some a := by
  cases a <;> simp [field, leNat, QueueAction.code] <;> rfl

/-- The row of a queue action executes the action that a pending QUEUE-COMMAND orders (R164). -/
theorem exec_action {a : QueueAction} {q : QueueId} {b : Bool} (h : s.orders a q b) :
    exec a.row s = .next (((s.clearOutputs.act q a).state.executed b (s.clearOutputs.act q a).result
      (s.clearOutputs.act q a).payload).finish) := by
  have hc : carriesAction a [byteOf q.val, a.code] = true := by
    have h1 := ofCode_code a (byteOf q.val)
    simp only [carriesAction, h1]
    simp [field, leNat, byteOf]
    omega
  have hx : s.clearOutputs.executeAction a = s.clearOutputs.execute .queueCommand queueCommandEffect := by
    simp only [State.executeAction, clearOutputs_request, h.1, hc, if_true]
  have he : exec a.row s = .next (s.clearOutputs.executeAction a).finish := by cases a <;> rfl
  rw [he, hx, execute_asks h]
  have hq : queueCommandEffect s.clearOutputs [byteOf q.val, a.code] = s.clearOutputs.act q a := by
    simp only [queueCommandEffect, indexOf_byteOf, ofCode_code]
  rw [hq]

/-- QUEUE-COMMAND executes as the row of the action it carries (R164). -/
theorem exec_queueCommand {a : QueueAction} {q : QueueId} {b : Bool} (h : s.orders a q b) :
    exec .queueCommand s = exec a.row s := by
  have hq : queueCommandEffect s.clearOutputs [byteOf q.val, a.code] = s.clearOutputs.act q a := by
    simp only [queueCommandEffect, indexOf_byteOf, ofCode_code]
  rw [exec_action h]
  show Host.Outcome.next (s.clearOutputs.execute .queueCommand queueCommandEffect).finish = _
  rw [execute_asks h, hq]

/-- A queue action that sends no response and leaves the soft-reset flag clear ends as it is. -/
theorem finish_executed {t : State} (b : Bool) (r : Result) (p : List Byte) (hs : t.sys.sent = [])
    (hr : t.link.softReset = false) : (t.executed b r p).finish = t.executed b r p :=
  finish_of_no_response _ hs (softResetDone_of_clear _ hr)

/-- With nothing stalled at the port, every queue action ends as it is. -/
theorem finish_executed_of_no_arrival {t : State} (b : Bool) (r : Result) (p : List Byte) (hs : t.sys.arrivals = [])
    (hr : t.link.softReset = false) : (t.executed b r p).finish = t.executed b r p :=
  finish_of_no_arrival _ hs hr

/-! ### Bits and bytes -/

theorem linkBits_eq_flatMap (bytes : List Byte) : linkBits bytes = bytes.flatMap byteBits := rfl

theorem linkBits_length (bytes : List Byte) : (linkBits bytes).length = 8 * bytes.length := by
  induction bytes with
  | nil => rfl
  | cons b bs ih =>
    simp only [linkBits, List.flatMap_cons, List.length_append, List.length_cons, List.length_nil] at ih ⊢
    omega

/-- Fewer than eight bits make no byte (R151). -/
theorem wholeBytes_of_short {bits : List Bool} (h : bits.length < 8) : wholeBytes bits = [] := by
  unfold wholeBytes
  split
  · simp at h
    omega
  · rfl

/-- A byte is the number its eight bits spell, most significant first (R151). -/
theorem byte_of_bits (b : Byte) :
    BitVec.ofNat 8 (bitsNat [b.getLsbD 7, b.getLsbD 6, b.getLsbD 5, b.getLsbD 4, b.getLsbD 3, b.getLsbD 2, b.getLsbD 1,
      b.getLsbD 0]) = b := by
  revert b
  decide

/-- The whole bytes of a period that clocked these bytes and fewer than eight bits more (R151). -/
theorem wholeBytes_linkBits (bytes : List Byte) {tail : List Bool} (h : tail.length < 8) :
    wholeBytes (linkBits bytes ++ tail) = bytes := by
  induction bytes with
  | nil => exact wholeBytes_of_short h
  | cons b bs ih =>
    simp only [linkBits, List.flatMap_cons, List.cons_append, List.nil_append, wholeBytes,
      byte_of_bits] at ih ⊢
    rw [ih]

end Sys2Proof.Machine.Laws
end

