-- ==== Sys2Proof/WellFormed.lean ====
section
/-! DEFINITION. The value sets of the commands' operands (R133, R143). Requesters, tags, addresses and beat counts are
in range by their types. -/

namespace Sys2Proof

/-- A request number of the memory-side port: 0..95 (R143). -/
def numberOk (n : Nat) : Bool := decide (n < Config.requestNumbers)

/-- The data of a read completion: at most the 16 words a request can ask for (R143). -/
def dataOk (data : List Word) : Bool := decide (data.length ≤ 16)

/-- Every operand holds a member of its value set. -/
def Instr.wellFormed : Instr → Bool
  | .takeRequest _ => true
  | .writeBeat _ _ _ => true
  | .memoryPassage n => numberOk n
  | .payloadWriteOk n => numberOk n
  | .payloadWriteError n => numberOk n
  | .headerWriteOk n => numberOk n
  | .headerWriteError n => numberOk n
  | .popReadOk n data => numberOk n && dataOk data
  | .popReadError n => numberOk n
  | .passThroughReadCompletion n _ data => numberOk n && dataOk data
  | .passThroughWriteCompletion n _ => numberOk n
  | .noticeWriteCompletion n _ => numberOk n
  | .discardedCompletion n _ data => numberOk n && dataOk data
  | .waiterExpiry _ _ => true
  | .requestFrame _ => true
  | .fetch _ => true
  | .readStatus => true
  | .readWindow => true
  | .writeWindow => true
  | .readClassMap => true
  | .writeClass => true
  | .readQueue => true
  | .configureQueue => true
  | .start => true
  | .drain => true
  | .stop => true
  | .flush => true
  | .clearFault => true
  | .armNotice => true
  | .readLog => true
  | .peekLog => true
  | .softReset => true
  | .powerOnReset _ => true
  | .queueCommand => true

end Sys2Proof
end

