-- ==== Sys2Proof/Tests/Slice0.lean ====
section
/-! SUPPORT. Tests: the worked examples of spec/, one step each, and for every statement with hypotheses a state that meets
them. The states are built on queue 3 of a bridge whose page 0x1000 is its push window and page 0x2000 its pop window. -/

namespace Sys2Proof.Tests

open Sys2Proof Sys2Proof.Machine

/-! ### Helpers -/

/-- The state a command leaves. -/
def run (c : Instr) (s : State) : State :=
  match exec c s with
  | .next t => t
  | _ => s

def ring : QueueConfig := { QueueConfig.reset with ringBase := 0x2000040000, ringSize := 512, threshold := 4 }

/-- A queue of `ring` in this state, with these positions. -/
def queueIn (st : QueueState) (release read commit reserve : Position) : Queue :=
  { Queue.reset with
    config := ring, state := st, release := release, read := read, commit := commit, reserve := reserve
    nextSequence := 7
    faultReason := if st = .faulted then some .ringRead else none }

def pushWindow : Window := ⟨true, 0x1000, 0x1000, .push, 3, 0, 15⟩
def popWindow : Window := ⟨true, 0x2000, 0x2000, .pop, 3, 0, 15⟩

/-- The bridge with queue 3 as given and its two windows. -/
def bridge (x : Queue) : State :=
  (State.reset.setQueue 3 x).withWindows ((State.reset.windows.set 0 pushWindow).set 1 popWindow)

def running : State := bridge (queueIn .running 0 0 0 0)
def words (n : Nat) : BurstLength := if h : 1 ≤ n ∧ n ≤ 16 then ⟨n, h⟩ else ⟨1, by decide⟩
def pushOf (L : Nat) : Request := ⟨5, 2, .write, 0x1000, words L⟩
def popOf (L : Nat) : Request := ⟨6, 1, .read, 0x2000, words L⟩

def State.asking (s : State) (c : Command) (payload : List Byte) : State :=
  s.withLink { s.link with request := some ⟨c, payload, false⟩ }

/-- A pending QUEUE-COMMAND with this action for queue 3. -/
def State.ordering (s : State) (a : QueueAction) : State := State.asking s .queueCommand [3, a.code]

def State.tracking (s : State) (xs : List Transaction) : State := s.withSys { s.sys with tracker := xs }
def State.awaiting (s : State) (r : MemRequest) : State := s.withMem { s.mem with passed := [⟨95, r⟩] }

def pushing (L : Nat) (m : BeatMode) (received : Nat) : Transaction := ⟨pushOf L, .push 3, some m, received, [], none⟩
def popping (L : Nat) : Transaction := ⟨popOf L, .pop 3, none, 0, [], none⟩
def dropping (L received : Nat) : Transaction :=
  ⟨pushOf L, .push 3, some .dropping, received, [], some ⟨.retry, some .full, []⟩⟩

/-- An entry of queue 3 for the push of `pushOf L`. -/
def entry (start : Position) (L : Nat) (st : EntryState) : Entry where
  queue := 3
  requester := 5
  tag := 2
  start := start
  words := words L
  sequence := 7
  beatsTaken := L
  gathered := []
  lastBytes := 8
  writesOutstanding := 0
  kind := .data
  cause := none
  state := st

/-- An entry of another producer. -/
def other (start : Position) (L : Nat) (st : EntryState) : Entry := { entry start L st with requester := 9, sequence := 8 }

def waiter (r : Requester) (L deadline : Nat) : Waiter := ⟨r, 2, words L, 0, deadline⟩
def beat : Beat := ⟨0x1122334455667788, 0xFF, false⟩
def popEntry (start : Position) (L reads : Nat) : PopEntry := ⟨start, words L, 6, 1, reads, false, List.replicate L none⟩

/-- The bytes of a held DONE response. -/
def doneBytes : ResponseSlot → List Byte
  | .held .done bytes => bytes
  | _ => []

/-! ### Well-formedness: each check refuses an ill-formed term -/

theorem test_wellFormed_refuses_a_number_above_95 :
    Instr.wellFormed (.memoryPassage 96) = false ∧ Instr.wellFormed (.memoryPassage 95) = true ∧
      Instr.wellFormed (.payloadWriteOk 96) = false ∧ Instr.wellFormed (.payloadWriteError 96) = false ∧
      Instr.wellFormed (.headerWriteOk 96) = false ∧ Instr.wellFormed (.headerWriteError 96) = false ∧
      Instr.wellFormed (.popReadOk 96 []) = false ∧ Instr.wellFormed (.popReadError 96) = false ∧
      Instr.wellFormed (.passThroughReadCompletion 96 .ok []) = false ∧
      Instr.wellFormed (.passThroughWriteCompletion 96 .ok) = false ∧
      Instr.wellFormed (.noticeWriteCompletion 96 .ok) = false ∧
      Instr.wellFormed (.discardedCompletion 96 .ok []) = false := by decide

theorem test_wellFormed_refuses_17_words :
    Instr.wellFormed (.popReadOk 0 (List.replicate 17 0)) = false ∧
      Instr.wellFormed (.popReadOk 0 (List.replicate 16 0)) = true ∧
      Instr.wellFormed (.passThroughReadCompletion 0 .ok (List.replicate 17 0)) = false ∧
      Instr.wellFormed (.discardedCompletion 0 .ok (List.replicate 17 0)) = false := by decide

/-! ### Layouts -/

/-- R180: the two frames that show the check byte. -/
theorem test_frames_of_R180 :
    mkFrame Command.readQueue.code [3] = [0x06, 0x01, 0x03, 0xF6] ∧ responseFrame .notReady [] = [0x30, 0x00, 0xD0] := by
  decide

/-- R179: queue 3, producer 5, sequence 0x1234, 9 words, 8 last bytes, byte 0 lowest. -/
theorem test_header_word : headerWord .data 3 5 0x1234 (words 9) 8 = 0x08091234050301A5 := by decide

/-- Section 1.4: the payload of 9 words at position 509 is written in two requests. -/
theorem test_ring_pieces :
    ring.ringPieces 509 9 = [⟨0x2000040FE8, 0, 3⟩, ⟨0x2000040000, 3, 6⟩] ∧ ring.ringWord (BitVec.ofNat 32 (2 ^ 32 - 6)) = 506 := by
  decide

/-- Section 1.4: commit at 3 and read at 4,294,967,294 give visible 5. -/
theorem test_visible_wraps : (queueIn .running 0xFFFFFFFE 0xFFFFFFFE 3 3).visible = 5 := by decide

/-- R181: the window of section 8.7, entry 3, byte by byte. -/
theorem test_window_bytes :
    Window.ofBytes [1, 0, 0, 0, 0x40, 0, 0, 0xF0, 0xFF, 0x40, 0, 1, 0, 0, 0, 0, 0, 1, 15] =
      some ⟨true, 0x40000000, 0x40FFF000, .remap, 0, 0x0100000000, 15⟩ := by decide

/-! ### The system-side port -/

/-- Section 8.7: the four windows and the class map. -/
def section87 : State :=
  let s := State.reset.setQueue 2 { Queue.reset with
    config := { QueueConfig.reset with ringBase := 0x0100800000, ringSize := 65536, directAccess := 8 } }
  (s.withWindows ((((s.windows.set 0 ⟨true, 0x80000000, 0x80000000, .push, 2, 0, 6⟩).set 1
    ⟨true, 0x80001000, 0x80001000, .pop, 2, 0, 8⟩).set 2 ⟨true, 0x40000000, 0x4000F000, .block, 0, 0, 4⟩).set 3
    ⟨true, 0x40000000, 0x40FFF000, .remap, 0, 0x0100000000, 15⟩)).withClasses
      (((s.classes.set 4 1).set 9 2).set 20 3)

/-- Section 8.7, the nine rows of its last table. -/
theorem test_decode_section_8_7 :
    section87.decode ⟨4, 0, .write, 0x80000238, words 4⟩ = .push 2 ∧
      section87.decode ⟨4, 0, .read, 0x80000000, words 2⟩ = .refused .kind ∧
      section87.decode ⟨20, 0, .write, 0x80000000, words 1⟩ = .access 0x80000000 ∧
      section87.decode ⟨20, 0, .read, 0x80001000, words 8⟩ = .pop 2 ∧
      section87.decode ⟨4, 0, .read, 0x80001000, words 8⟩ = .access 0x80001000 ∧
      section87.decode ⟨9, 0, .read, 0x40003000, words 2⟩ = .refused .blocked ∧
      section87.decode ⟨4, 0, .read, 0x40003000, words 2⟩ = .access 0x0100003000 ∧
      section87.decode ⟨4, 0, .write, 0x40800000, words 16⟩ = .refused .guard ∧
      section87.decode ⟨20, 0, .write, 0x40800000, words 16⟩ = .access 0x0100800000 := by decide

/-- R21: a push of 9 words granted at reserve position 508 (section 1.4) takes positions 508 to 517. -/
theorem test_takeRequest_grants_a_push :
    ((run (.takeRequest (pushOf 9)) (bridge (queueIn .running 508 508 508 508))).queue 3).reserve = 518 := by decide

/-- Section 9.5, a repeated tag behind a held push: the sixth dropped beat sends the answer and lets the read in. -/
theorem test_writeBeat_frees_the_tag :
    let s := run (.writeBeat 5 2 beat) ((State.tracking running [dropping 6 5]).withSys
      ⟨[dropping 6 5], [⟨5, 2, .read, 0x5000, words 2⟩], []⟩)
    s.sys.sent = [⟨5, 2, .retry, []⟩] ∧ s.sys.arrivals = [] ∧
      s.mem.waiting = [⟨.passThrough 5 2, .read, 0x5000, 2, []⟩] := by decide

/-- R24: the last beat of section 2.9's X, with 5 lanes enabled, records 5 last-word bytes. -/
theorem test_writeBeat_counts_the_lanes :
    ((run (.writeBeat 5 2 ⟨0, 0x1F, false⟩) (State.tracking (running.withReservations
      [{ entry 0 3 .filling with beatsTaken := 2, gathered := [1, 2] }]) [pushing 3 .handing 2])).reservations.map
        (fun e => (e.state, e.lastBytes, e.writesOutstanding))) = [(.writing, 5, 1)] := by decide

/-! ### Records -/

/-- Section 2.9, after Y's header OK: commit passes Y, then Z, from 104 to 115. -/
theorem test_headerWriteOk_commits_two :
    let s := run (.headerWriteOk 95) (State.awaiting (State.tracking ((bridge (queueIn .running 100 100 104 115)).withReservations
      [entry 104 8 .sealing, other 113 1 .closed]) [pushing 8 .handing 8]) (dataHeaderWrite ring (entry 104 8 .sealing)))
    (s.queue 3).commit = 115 ∧ s.reservations = [] ∧ s.sys.sent = [⟨5, 2, .ok, []⟩] := by decide

/-- Section 3.3, first order: B's second beat rewinds B; reserve 44, next sequence 21. -/
theorem test_writeBeat_rewinds :
    let b : Entry := { entry 44 2 .discarding with beatsTaken := 1, sequence := 21, cause := some .poison }
    let s := run (.writeBeat 5 2 beat) (State.tracking ((bridge { queueIn .running 40 40 40 47 with
      nextSequence := 22 }).withReservations [{ other 40 3 .filling with sequence := 20 }, b]) [pushing 2 .handing 1])
    (s.queue 3).reserve = 44 ∧ (s.queue 3).nextSequence = 21 ∧ s.reservations.length = 1 := by decide

/-- Section 3.6: D's header completes ERROR; the queue is FAULTED and D FAILED. -/
theorem test_headerWriteError_faults :
    let s := run (.headerWriteError 95) (State.awaiting (State.tracking ((bridge (queueIn .running 200 200 200 207)).withReservations
      [entry 200 4 .sealing, other 205 1 .closed]) [pushing 4 .handing 4]) (dataHeaderWrite ring (entry 200 4 .sealing)))
    (s.queue 3).faultReason = some .headerWrite ∧ s.reservations.map (fun e => e.state) = [.failed, .closed] ∧
      s.log.entries.map (fun e => e.reason) = [.headerWrite, .queueFaulted] := by decide

/-- Section 3.6: CLEAR-FAULT re-issues D as a FILLER. -/
theorem test_clearFault_reissues :
    let s := run .clearFault (State.ordering ((bridge (queueIn .faulted 200 200 200 207)).withReservations
      [entry 200 4 .failed, other 205 1 .closed]) .clearFault)
    (s.queue 3).state = .running ∧ s.reservations.map (fun e => (e.state, e.kind)) = [(.sealing, .filler), (.closed, .data)] ∧
      s.mem.waiting = [fillerWrite ring (entry 200 4 .failed)] := by decide

/-- R27: the payload write of a record completes OK, and its header write is issued. -/
theorem test_payloadWriteOk_seals :
    (run (.payloadWriteOk 95) (State.awaiting (running.withReservations [{ entry 0 1 .writing with writesOutstanding := 1 }])
      ⟨.payload 3 0, .write, 0x2000040008, 1, [beat]⟩)).mem.waiting = [dataHeaderWrite ring (entry 0 1 .sealing)] := by decide

/-- R28: the first of two payload writes completes ERROR. -/
theorem test_payloadWriteError_records :
    (run (.payloadWriteError 95) (State.awaiting (running.withReservations [{ entry 0 1 .writing with writesOutstanding := 2 }])
      ⟨.payload 3 0, .write, 0x2000040008, 1, [beat]⟩)).reservations.map (fun e => (e.state, e.cause)) =
        [(.writing, some .payloadError)] := by decide

/-- Section 2.10: W1 (16 words, 10 free) is not eligible and W2 (2 words) is granted. -/
theorem test_arbiter_section_2_10 :
    let s := ((State.reset.setQueue 6 { queueIn .running 0 0 0 502 with pushWaiters := [waiter 1 16 9, waiter 3 1 9] }).setQueue 9
      { queueIn .running 0 0 0 312 with pushWaiters := [{ waiter 2 2 9 with joinOrder := 1 }] }).withReservations
        (List.replicate 47 (entry 0 1 .filling))
    (s.arbitrate.queue 6).pushWaiters.length = 2 ∧ (s.arbitrate.queue 9).pushWaiters = [] ∧
      s.arbitrate.reservations.length = 48 := by decide

/-- Section 2.10, second legal order (R37): the arbiter's run is put off, the new push takes the one free entry, and the
waiting heads stay. -/
theorem test_takeRequest_before_the_arbiter :
    let s := ((running.setQueue 9 { queueIn .running 0 0 0 312 with pushWaiters := [waiter 2 2 9] }).withReservations
      (List.replicate 47 { entry 0 1 .filling with queue := 4 })).withArbiterDue true
    let t := run (.takeRequest (pushOf 4)) s
    (t.reservations.drop 47).map (fun e => (e.queue, e.requester)) = [(3, 5)] ∧ (t.queue 9).pushWaiters.length = 1 := by decide

/-! ### Pops, notices and waiters -/

/-- The pop of section 4.9 on queue 3: 6 words at 1020, reads of 4 and 2 words. -/
def splitPop (reads : Nat) (returned : List (Option Word)) : State :=
  State.tracking (bridge { queueIn .running 1020 1026 1026 1026 with
    popEntries := [⟨1020, words 6, 6, 1, reads, false, returned⟩] }) [popping 6]

/-- Section 4.9: the second read returns first and fills the last two places. -/
theorem test_popReadOk_second_half_first :
    ((run (.popReadOk 95 [5, 6]) (State.awaiting (splitPop 2 (List.replicate 6 none))
      ⟨.popRead 3 1020 4, .read, 0x2000040000, 2, []⟩)).queue 3).popEntries.map (fun e => e.returned) =
        [[none, none, none, none, some 5, some 6]] := by decide

/-- Section 4.9: the first read completes, and the consumer has the six words in order. -/
theorem test_popReadOk_answers :
    (run (.popReadOk 95 [1, 2, 3, 4]) (State.awaiting (splitPop 1 [none, none, none, none, some 5, some 6])
      ⟨.popRead 3 1020 0, .read, 0x2000040FE0, 4, []⟩)).sys.sent = [⟨6, 1, .ok, [1, 2, 3, 4, 5, 6]⟩] := by decide

/-- Section 4.9: the last read fails: DECLINE with six beats of 0xFF, and the queue FAULTED with reason RING-READ. -/
theorem test_popReadError_faults :
    let s := run (.popReadError 95) (State.awaiting (splitPop 1 [none, none, none, none, some 5, some 6])
      ⟨.popRead 3 1020 0, .read, 0x2000040FE0, 4, []⟩)
    s.sys.sent = [⟨6, 1, .decline, List.replicate 6 0xFFFFFFFFFFFFFFFF⟩] ∧ (s.queue 3).faultReason = some .ringRead := by decide

/-- Section 5.6, second order: H1's deadline is reached, and H2 is granted in the 6 free words. H2, whose deadline is later,
does not expire before it (R81). -/
theorem test_waiterExpiry_hands_on :
    let s := bridge { queueIn .running 0 0 0 506 with pushWaiters := [waiter 1 12 9, waiter 2 4 39] }
    let t := run (.waiterExpiry 1 2) s
    (t.queue 3).pushWaiters = [] ∧ (t.queue 3).free = 1 ∧ t.hold.clock = 9 ∧ run (.waiterExpiry 2 2) s = s := by decide

/-- Section 7.6: N2 completes OK with 26 words visible; the check fires again. -/
theorem test_noticeWriteCompletion_fires_again :
    let x : Queue := { queueIn .running 0 0 26 26 with noticeArmed := true, notices := [⟨0, 0⟩, ⟨0, 0⟩] }
    let s := run (.noticeWriteCompletion 95 .ok) (State.awaiting (bridge x) (noticeWrite 3 x))
    (s.queue 3).noticeArmed = false ∧ (s.queue 3).notices.length = 2 ∧ s.mem.waiting = [noticeWrite 3 x] := by decide

/-- Section 9.8: with 95 outstanding, H1 passes before the reads, and the count is 96. -/
theorem test_memoryPassage_prefers_headers :
    let h : MemRequest := oneWordWrite (.header 5 0) 0 0
    let s := run (.memoryPassage 95) (State.reset.withMem
      ⟨[⟨.passThrough 1 1, .read, 0, 1, []⟩, h], (List.range 95).map (fun n => ⟨n, h⟩), []⟩)
    s.mem.handed = [⟨95, h⟩] ∧ s.outstanding = 96 := by decide

/-- R140: a pass-through read completes with the words it asked for. -/
theorem test_passThroughReadCompletion_answers :
    (run (.passThroughReadCompletion 95 .ok [7]) (State.awaiting (State.tracking State.reset
      [⟨⟨6, 1, .read, 0x5000, words 1⟩, .access 0x5000, none, 0, [], none⟩]) ⟨.passThrough 6 1, .read, 0x5000, 1, []⟩)).sys.sent =
        [⟨6, 1, .ok, [7]⟩] := by decide

/-- R142: a pass-through write completes ERROR. -/
theorem test_passThroughWriteCompletion_declines :
    (run (.passThroughWriteCompletion 95 .error) (State.awaiting (State.tracking State.reset
      [⟨⟨6, 1, .write, 0x5000, words 1⟩, .access 0x5000, some .gathering, 1, [], none⟩])
        ⟨.passThrough 6 1, .write, 0x5000, 1, [beat]⟩)).log.entries.map (fun e => (e.reason, e.address)) =
          [(.memory, some 0x5000)] := by decide

/-- R143: a completion that no outstanding request holds is discarded. -/
theorem test_discardedCompletion_is_dropped : run (.discardedCompletion 3 .ok [1]) running = running := by decide

/-! ### The management link -/

/-- Section 10.7: READ-QUEUE 3 becomes pending, and a BAD-FRAME follows a byte sum of 1. -/
theorem test_requestFrame_accepts_and_rejects :
    (run (.requestFrame (linkBits [0x06, 0x01, 0x03, 0xF6])) running).link.request = some ⟨.readQueue, [3], false⟩ ∧
      (run (.requestFrame (linkBits [0x06, 0x01, 0x03, 0xF7])) running).link.slot = .held .badFrame [] := by decide

/-- R151: READ-STATUS (0x01, 0x00, 0xFF) bit by bit, most significant first, and three bits more, which are ignored. -/
theorem test_requestFrame_takes_the_most_significant_bit_first :
    (run (.requestFrame ([false, false, false, false, false, false, false, true] ++ List.replicate 8 false ++
      List.replicate 8 true ++ [true, false, true])) running).link.request = some ⟨.readStatus, [], false⟩ := by decide

/-- R156: nothing held, then a fetch answers NO-RESPONSE (0x31, 0x00, 0xCF) from the second byte on. -/
theorem test_fetch_no_response :
    (run (.fetch 40) running).link.dataOut = linkBits [0, 0x31, 0, 0xCF, 0, 0] ∧
      (run (.fetch 4) running).link.dataOut = List.replicate 8 false ++ [false, false, true, true] := by decide

/-- R157: the identity, the revision, the 16 queues and the 32 windows of a READ-STATUS. -/
theorem test_readStatus_bytes :
    (run .readStatus (State.asking running .readStatus [])).link.slot =
      .held .done [0x60, 0x31, 1, 16, 32, 0, 0, 0, 0, 0, 1, 0, 0, 0, 0, 0, 0, 0, 0, 0, 0, 0, 0, 0] := by decide

theorem test_readWindow_bad_index :
    (run .readWindow (State.asking running .readWindow [32])).link.slot = .held .badIndex [] := by decide

/-- R117: a limit below the base is refused. -/
theorem test_writeWindow_bad_value :
    (run .writeWindow (State.asking running .writeWindow
      (0 :: Window.bytes ⟨true, 0x2000, 0x1000, .pass, 0, 0, 1⟩))).link.slot = .held .badValue [] := by decide

theorem test_readClassMap_packs :
    (run .readClassMap (State.asking section87 .readClassMap [])).link.slot =
      .held .done [0, 1, 8, 0, 0, 3, 0, 0, 0, 0, 0, 0, 0, 0, 0, 0] := by decide

theorem test_writeClass_sets : (run .writeClass (State.asking running .writeClass [63, 3])).classOf 63 = 3 := by decide

/-- R162: the state byte and the reserve position of a RUNNING queue. -/
theorem test_readQueue_snapshot :
    let bytes := doneBytes (run .readQueue (State.asking (bridge (queueIn .running 1 2 3 0x01020304)) .readQueue [3])).link.slot
    bytes.length = 60 ∧ (bytes.drop 28).take 2 = [0x11, 0] ∧ (bytes.drop 42).take 4 = [4, 3, 2, 1] := by decide

/-- R10: a ring base off a 4096 byte boundary is refused, and an aligned one is stored. -/
theorem test_configureQueue_checks_the_base :
    (run .configureQueue (State.asking State.reset .configureQueue (3 :: { ring with ringBase := 0x800 }.bytes))).link.slot =
        .held .badValue [] ∧
      ((run .configureQueue (State.asking State.reset .configureQueue (3 :: ring.bytes))).queue 3).config = ring := by decide

theorem test_start_runs :
    ((run .start (State.ordering (bridge (queueIn .stopped 0 0 0 0)) .start)).queue 3).state = .running := by decide

/-- Section 6.11: DRAIN with entries left keeps K held. -/
theorem test_drain_keeps_pop_waiters :
    let s := run .drain (State.ordering ((bridge { queueIn .running 300 300 310 318 with popWaiters := [waiter 1 12 9] }).withReservations
      [entry 310 3 .sealing, other 314 3 .closed]) .drain)
    (s.queue 3).state = .draining ∧ (s.queue 3).popWaiters.length = 1 := by decide

/-- Section 10.7: a STOP whose request is superseded leaves the held BUSY. -/
theorem test_stop_superseded :
    let s := run .stop ((running.withReservations [entry 0 1 .sealing]).withLink
      { Link.reset with request := some ⟨.queueCommand, [3, 3], true⟩, slot := .held .busy [] })
    (s.queue 3).state = .stopping ∧ s.link.slot = .held .busy [] := by decide

theorem test_flush_moves_read :
    ((run .flush (State.ordering (bridge (queueIn .running 2 4 9 9)) .flush)).queue 3).release = 9 := by decide

theorem test_armNotice_fires :
    (run .armNotice (State.ordering (bridge (queueIn .running 0 0 4 4)) .armNotice)).mem.waiting.length = 1 := by decide

/-- Section 11.7: READ-LOG returns the oldest entry with lost count 3 and clears the count. -/
theorem test_readLog_returns_the_lost_count :
    let s := run .readLog (State.asking (State.reset.withLog
      ⟨[{ reason := .latched, origin := some (3, 5), queue := some 6 }], 3⟩) .readLog [])
    s.log = ⟨[], 0⟩ ∧ s.link.slot = .held .done [0x12, 5, 3, 5, 0, 0, 0, 0, 0, 6, 0, 0, 0, 3, 0] := by decide

theorem test_peekLog_keeps_the_entry :
    (run .peekLog (State.asking (State.reset.withLog ⟨[{ reason := .align }], 3⟩) .peekLog [])).log.lost = 3 := by decide

/-- Section 10.8, last row: the pop's answer brings the last queue to STOPPED and the soft reset completes. -/
theorem test_soft_reset_completes :
    let s := run (.popReadOk 95 [1]) ((State.awaiting (State.tracking (bridge { queueIn .stopping 0 1 1 1 with
      popEntries := [popEntry 0 1 1] }) [popping 1]) ⟨.popRead 3 0 0, .read, 0x2000040000, 1, []⟩).withLink
        { Link.reset with softReset := true })
    (s.queue 3).state = .stopped ∧ s.link.softReset = false := by decide

/-- R167: with every queue STOPPED and no transaction, SOFT-RESET completes at once. -/
theorem test_softReset_at_once :
    let s := run .softReset (State.asking (State.reset.withLog ⟨[{ reason := .align }], 0⟩) .softReset [])
    s.log.entries = [] ∧ s.link.softReset = false ∧ s.link.slot = .held .accepted [] := by decide

/-- R149: the table being full, the STOP of queue 2 frees an entry, and the push held for queue 3 is yet answered DECLINE
(STATE). -/
theorem test_softReset_answers_held_requests :
    let s := run .softReset (State.asking (((State.tracking (bridge { queueIn .running 0 0 0 0 with
      pushWaiters := [⟨5, 2, words 4, 0, 9⟩] }) [pushing 4 .waiting 0]).setQueue 2 (queueIn .running 0 0 0 2)).withReservations
        ({ other 0 1 .closed with queue := 2 } :: List.replicate 47 { other 0 1 .filling with queue := 4 })) .softReset [])
    s.sys.tracker.map (fun x => x.answer) = [some ⟨.decline, some .state, []⟩] ∧ s.reservations.length = 47 ∧
      s.log.entries.map (fun e => e.reason) = [.state] := by decide

theorem test_powerOnReset_forgets :
    run (.powerOnReset false) (bridge (queueIn .faulted 1 2 3 4)) = State.reset := by decide

theorem test_queueCommand_bad_action :
    (run .queueCommand (State.asking running .queueCommand [3, 7])).link.slot = .held .badValue [] := by decide

theorem test_no_word_spells_a_command : decodeTableWord 8 0xA5 = none ∧ running.withFetchWord 8 0xA5 = running := by decide

/-! ### Witnesses: states and operands that meet the hypotheses of each statement, clause by clause -/

theorem witness_StepTakesTheFrontCommand : (running.withPending [.readStatus]).pending = .readStatus :: [] := rfl

/-- A push waiter one microsecond before its deadline, and at it. -/
theorem witness_EmptyQueueLetsHoldTimePass :
    let held := fun n => (bridge { queueIn .running 0 0 0 506 with pushWaiters := [waiter 1 12 9] }).withHold ⟨1, n⟩
    ((held 8).pending = [] ∧ ∀ h ∈ (held 8).heldRequests, (held 8).hold.clock < h.waiter.deadline) ∧
      ((held 9).pending = [] ∧ ∃ h ∈ (held 9).heldRequests, h.waiter.deadline ≤ (held 9).hold.clock) := by decide

/-- A state in a soft reset that a transaction still holds up. -/
def resetting : State := (State.tracking (bridge (queueIn .stopping 0 1 1 1)) [popping 1]).withLink { Link.reset with softReset := true }

/-- A queue with an entry in each of the six states. -/
def sixEntries : State :=
  State.ordering ((bridge (queueIn .running 0 0 0 12)).withReservations
    [{ entry 0 1 .filling with beatsTaken := 0 }, { other 2 1 .writing with writesOutstanding := 1 }, other 4 1 .sealing,
      other 6 1 .closed, { other 8 1 .discarding with beatsTaken := 0 }, other 10 1 .failed]) .stop

/-- That queue beside one with a waiter on each side, as the SOFT-RESET comes. -/
def sixAndWaiters : State :=
  State.asking (sixEntries.setQueue 4 { queueIn .running 0 0 3 510 with
    pushWaiters := [waiter 1 12 9], popWaiters := [waiter 2 12 9] }) .softReset []

theorem witness_SoftResetStopsEveryQueueAndAnswersBusy_entries :
    (sixAndWaiters.asks .softReset [] false ∧ sixAndWaiters.sys.arrivals = [] ∧ WaiterLaw sixAndWaiters ∧
      (∀ q, ((sixAndWaiters.entriesOf q).map (fun e => e.start)).Nodup) ∧ (run .softReset sixAndWaiters).link.softReset = true) ∧
    (sixAndWaiters.stoppable 3 ∧ (run .softReset sixAndWaiters).entriesOf 3 ≠ []) ∧
    (sixAndWaiters.stoppable 4 ∧ (run .softReset sixAndWaiters).entriesOf 4 = [] ∧ (sixAndWaiters.queue 4).popEntries = [] ∧
      waiter 1 12 9 ∈ (sixAndWaiters.queue 4).pushWaiters ∧ waiter 2 12 9 ∈ (sixAndWaiters.queue 4).popWaiters ∧
      ∀ e ∈ sixAndWaiters.reservations, e.requester ≠ 1 ∧ e.requester ≠ 2) := by
  unfold State.asks WaiterLaw State.stoppable
  decide

theorem witness_SoftResetStopsEveryQueueAndAnswersBusy :
    ((State.asking running .softReset []).asks .softReset [] false ∧ (State.asking running .softReset []).sys.arrivals = [] ∧
      WaiterLaw (State.asking running .softReset [])) ∧
    ((State.asking resetting .readWindow [0]).link.request = some ⟨.readWindow, [0], false⟩ ∧
      (State.asking resetting .readWindow [0]).link.softReset = true ∧ Command.readWindow ≠ .readStatus ∧
      ¬((∀ q, ((State.asking resetting .readWindow [0]).queue q).state = .stopped) ∧
        (State.asking resetting .readWindow [0]).sys.tracker = [])) ∧
    ((State.ordering resetting .start).link.request = some ⟨.queueCommand, [byteOf (3 : QueueId).val, QueueAction.start.code], false⟩ ∧
      (State.ordering resetting .start).link.softReset = true) := by
  unfold State.asks WaiterLaw
  decide

/-- The clauses of R154, with a period of one byte and seven bits as the malformed frame; a period of seven bits; and one that a
power-on reset met. -/
theorem witness_RequestFrameIsDecidedByTheFirstCase :
    (0xEF#8 ≠ 0xF0#8 ∧ (List.replicate 7 true).length < 8 ∧ running.link.ignorePeriod = false ∧ ¬wellFormedFrame [0xEF]) ∧
    (wellFormedFrame [0x06, 1, 3, 0xF6] ∧ (State.asking running .readLog []).link.request = some ⟨.readLog, [], false⟩) ∧
    (wellFormedFrame [0x0C, 0, 0xF4] ∧ running.link.request = none ∧ ∀ c : Command, c.code ≠ 0x0C) ∧
    (Command.readQueue.code = 0x06 ∧ resetting.link.softReset = true ∧ Command.readQueue ≠ .readStatus) ∧
    (wellFormedFrame [0x06, 0, 0xFA] ∧ [0x00#8, 0xFA#8].length ≠ Command.readQueue.payloadLength + 2) ∧
    ([0x01#8, 0x03#8, 0xF6#8].length = Command.readQueue.payloadLength + 2 ∧ running.link.softReset = false) ∧
    (run (.powerOnReset true) running).link.ignorePeriod = true := by
  refine ⟨⟨by decide, by decide, by decide, ?_⟩, ⟨⟨0x06, 1, [3, 0xF6], rfl, by decide⟩, by decide⟩,
    ⟨⟨0x0C, 0, [0xF4], rfl, by decide⟩, by decide, fun c => by cases c <;> decide⟩, by decide,
    ⟨⟨0x06, 0, [0xFA], rfl, by decide⟩, by decide⟩, by decide, by decide⟩
  rintro ⟨c, n, r, h, -⟩
  simp at h

theorem witness_FetchGivesTheSlotsAnswer :
    running.link.ignorePeriod = false ∧ running.link.slot = .none ∧
      (run (.requestFrame (linkBits [0x01, 0, 0xFF])) running).link.slot = .awaiting ∧
      (run (.requestFrame (linkBits [0x01, 0, 0xFE])) running).link.slot = .held .badFrame [] := by decide

theorem witness_ReadStatusReportsTheBridge :
    (State.asking running .readStatus []).link.request = some ⟨.readStatus, [], false⟩ ∧
      (State.asking running .readStatus []).log.entries.length ≤ 32 := by decide

theorem witness_WindowCommandsReadAndReplaceAnEntry :
    ((State.asking running .readWindow [31]).asks .readWindow [31] false ∧ (31#8).toNat = (31 : WindowIndex).val) ∧
    ((State.asking running .readWindow [32]).asks .readWindow [32] false ∧ 32 ≤ (32#8).toNat) ∧
    (pushWindow.bytes.length = 19 ∧ (State.asking running .writeWindow (31 :: pushWindow.bytes)).asks .writeWindow
      (31 :: pushWindow.bytes) false ∧ pushWindow.valid) ∧
    ((List.replicate 19 (2#8)).length = 19 ∧ ¬∃ w : Window, w.valid ∧ List.replicate 19 (2#8) = w.bytes) := by
  refine ⟨by unfold State.asks; decide, by unfold State.asks; decide, by unfold State.asks Window.valid; decide, by decide, ?_⟩
  rintro ⟨w, -, h⟩
  have := congrArg List.head? h
  cases hb : w.enabled <;> simp [Window.bytes, hb, boolCode, byteOf] at this

theorem witness_ClassCommandsReadAndReplaceClasses :
    (State.asking running .readClassMap []).asks .readClassMap [] false ∧
    ((State.asking running .writeClass [64, 3]).asks .writeClass [64, 3] false ∧ 64 ≤ (64#8).toNat) ∧
    ((63#8).toNat = (63 : Requester).val ∧ 4 ≤ (4#8).toNat ∧ (3#8).toNat = (3 : RequesterClass).val) := by
  unfold State.asks
  decide

theorem capacityLaw_of_running : CapacityLaw (State.asking running .readQueue [3]) where
  tracker := by decide
  reservations := by decide
  popEntries := by decide
  slots := by decide
  notices := by decide
  outstanding := by decide
  log := by decide
  lost := by decide

theorem witness_ReadQueueReturnsTheSnapshot :
    let s := State.asking running .readQueue [3]
    (s.asks .readQueue [byteOf (3 : QueueId).val] false ∧ (s.queue 3).config.ringSize < 2 ^ 24 ∧
      (s.queue 3).config.holdLimit < 2 ^ 16 ∧ (s.queue 3).config.threshold < 2 ^ 24 ∧ CapacityLaw s) ∧
    ((State.asking running .readQueue [16]).asks .readQueue [16] false ∧ 16 ≤ (16#8).toNat) :=
  ⟨⟨by unfold State.asks; decide, by decide, by decide, by decide, capacityLaw_of_running⟩, by unfold State.asks; decide⟩

theorem witness_LogCommandsReturnTheOldestEntry :
    let e : LogEntry := { reason := .ringRead, words := some (.count 255) }
    let s := (State.asking running .readLog []).withLog ⟨[e], 65535⟩
    let p := (State.asking running .peekLog []).withLog ⟨[e], 65535⟩
    ((State.asking running .readLog []).asks .readLog [] false ∧ (State.asking running .readLog []).log.entries = []) ∧
    (s.asks .readLog [] false ∧ s.log.entries = e :: []) ∧ (p.asks .peekLog [] false ∧ p.log.entries = e :: []) ∧
    (65535 ≤ 65535 ∧ ∀ n, e.words = some (.count n) → n < 256) := by
  refine ⟨by unfold State.asks; decide, by unfold State.asks; decide, by unfold State.asks; decide, by decide, ?_⟩
  intro n h
  simp at h
  omega

theorem accepts_ring : State.reset.accepts 3 ring := by
  refine ⟨⟨.inr ⟨9, by decide⟩, by decide, by decide, by decide, by decide⟩, fun _ => ⟨by decide, by decide, ?_, ?_⟩⟩
  · unfold QueueConfig.ringByte
    decide
  · intro p _ h
    exact absurd (by revert p; decide) h

theorem witness_ConfigureQueueReplacesAValidConfiguration :
    let s := fun i => State.asking State.reset .configureQueue (i :: ring.bytes)
    (ring.bytes.length = 28 ∧ (s 16).asks .configureQueue (16 :: ring.bytes) false ∧ 16 ≤ (16#8).toNat) ∧
    ((15#8).toNat = (15 : QueueId).val ∧ (running.queue 3).state ≠ .stopped) ∧
    ((State.reset.queue 3).state = .stopped ∧ State.reset.accepts 3 ring) ∧
    ¬∃ c : QueueConfig, State.reset.accepts 3 c ∧ List.replicate 28 (3#8) = c.bytes := by
  refine ⟨by unfold State.asks; decide, by decide, ⟨by decide, accepts_ring⟩, ?_⟩
  rintro ⟨c, -, h⟩
  have := congrArg (fun bs => bs[8]?) h
  cases hf : c.fullPolicy <;> cases he : c.emptyPolicy <;>
    simp [QueueConfig.bytes, leBytes, hf, he, Policy.code, byteOf] at this

theorem witness_QueueCommandCarriesOutItsAction :
    ((State.asking running .queueCommand [16, 1]).asks .queueCommand [16, 1] false ∧ 16 ≤ (16#8).toNat) ∧
    ((15#8).toNat < 16 ∧ (∀ a : QueueAction, a.code ≠ 0) ∧ (∀ a : QueueAction, a.code ≠ 7)) ∧
    (QueueAction.start.code = 1 ∧ QueueAction.armNotice.code = 6) := by
  refine ⟨by unfold State.asks; decide, ⟨by decide, ?_, ?_⟩, by decide⟩ <;> intro a <;> cases a <;> decide

theorem witness_StartRunsAStoppedQueue :
    let s := State.ordering (bridge (queueIn .stopped 0 0 0 0)) .start
    (s.orders .start 3 false ∧ (s.queue 3).state = .stopped ∧ (s.queue 3).config.ringSize ≠ 0) ∧
    ((State.ordering State.reset .start).orders .start 3 false ∧ ((State.ordering State.reset .start).queue 3).config.ringSize = 0) ∧
    ((State.ordering running .start).queue 3).state ≠ .stopped := by
  unfold State.orders State.asks
  decide

theorem witness_DrainReleasesThePushWaiters :
    let s := State.ordering ((bridge { queueIn .running 0 0 0 510 with pushWaiters := [waiter 1 12 9] }).withReservations
      [entry 0 16 .filling]) .drain
    let w := State.ordering (bridge { queueIn .running 4 4 4 4 with popWaiters := [waiter 1 12 9, waiter 2 1 9] }) .drain
    (s.orders .drain 3 false ∧ s.sys.arrivals = [] ∧ (s.queue 3).state = .running ∧ s.entriesOf 3 ≠ []) ∧
    ((State.ordering (bridge (queueIn .draining 0 0 1 1)) .drain).orders .drain 3 false ∧
      ((State.ordering (bridge (queueIn .draining 0 0 1 1)) .drain).queue 3).state = .draining) ∧
    (w.orders .drain 3 false ∧ w.sys.arrivals = [] ∧
      (w.heldRequests.map (fun h => (h.waiter.requester, h.waiter.tag))).Nodup ∧ (w.queue 3).state = .running ∧
      w.entriesOf 3 = [] ∧ (w.queue 3).popEntries = [] ∧ (w.queue 3).visible = 0) := by
  unfold State.orders State.asks
  decide

/-- DRAIN of a queue without an entry: 4 words visible, a pop waiter of 4 words and a push waiter; and a pop entry, with visible
0 and two pop waiters. -/
theorem witness_DrainReleasesThePushWaiters_without_an_entry :
    let v := State.ordering (bridge { queueIn .running 0 0 4 4 with
      pushWaiters := [waiter 2 16 9], popWaiters := [waiter 1 4 9] }) .drain
    let p := State.ordering (bridge { queueIn .running 0 2 2 2 with
      popEntries := [popEntry 0 2 1], popWaiters := [waiter 1 1 9, waiter 2 12 9] }) .drain
    (v.orders .drain 3 false ∧ v.sys.arrivals = [] ∧ (v.queue 3).state = .running ∧ v.entriesOf 3 = [] ∧
      (v.queue 3).visible ≠ 0 ∧ (v.queue 3).popWaiters = [waiter 1 4 9] ∧
      (waiter 1 4 9).length.val ≤ (v.queue 3).visible ∧ (v.queue 3).popEntries.length < 16) ∧
    (p.orders .drain 3 false ∧ p.sys.arrivals = [] ∧ (p.queue 3).state = .running ∧ p.entriesOf 3 = [] ∧
      (p.queue 3).popEntries ≠ [] ∧ (∀ w ∈ (p.queue 3).popWaiters, (p.queue 3).visible < w.length.val) ∧
      (p.heldRequests.map (fun h => (h.waiter.requester, h.waiter.tag))).Nodup) := by
  unfold State.orders State.asks
  decide

theorem witness_StopMovesTheQueue :
    (sixEntries.orders .stop 3 false ∧ sixEntries.sys.arrivals = [] ∧ WaiterLaw sixEntries ∧
      (sixEntries.queue 3).state = .running ∧ (run .stop sixEntries).entriesOf 3 ≠ []) ∧
    ((State.ordering running .stop).orders .stop 3 false ∧ (run .stop (State.ordering running .stop)).entriesOf 3 = []) ∧
    ((State.ordering (bridge (queueIn .stopping 0 0 0 0)) .stop).queue 3).state = .stopping ∧
    ((State.ordering State.reset .stop).queue 3).state = .stopped := by
  unfold State.orders State.asks WaiterLaw
  decide

/-- Both clauses of WRITING: the write has passed to memory, or still waits at the arbiter; in the second case the entry is
resolved, its producer's write being ready. -/
theorem witness_StopActsOnEachEntry :
    let e := { other 2 1 .writing with writesOutstanding := 1 }
    let w := (State.tracking sixEntries [⟨⟨9, 2, .write, 0x1000, words 1⟩, .push 3, some .handing, 1, [], none⟩]).withMem
      ⟨[oneWordWrite (.payload 3 2) 0 0], [], []⟩
    (sixEntries.orders .stop 3 false ∧ sixEntries.sys.arrivals = [] ∧ WaiterLaw sixEntries ∧
      ((sixEntries.entriesOf 3).map (fun e => e.start)).Nodup ∧ sixEntries.stoppable 3) ∧
    (sixEntries.entriesOf 3).map (fun e => (e.state, e.beatsTaken, e.words.val, e.writesOutstanding)) =
      [(.filling, 0, 1, 0), (.writing, 1, 1, 1), (.sealing, 1, 1, 0), (.closed, 1, 1, 0), (.discarding, 0, 1, 0),
        (.failed, 1, 1, 0)] ∧
    sixEntries.withdrawnWrites 3 e < e.writesOutstanding ∧
    (w.orders .stop 3 false ∧ w.sys.arrivals = [] ∧ WaiterLaw w ∧ w.stoppable 3 ∧ w.resolvedByStop 3 = [e]) ∧
    w.writeReady 9 2 := by
  refine ⟨by unfold State.orders State.asks WaiterLaw State.stoppable; decide, by decide, by decide,
    by unfold State.orders State.asks WaiterLaw State.stoppable; decide, _, rfl, by decide⟩

theorem witness_FlushMovesReadToCommit :
    let s := State.ordering (bridge { queueIn .running 0 2 9 9 with popEntries := [popEntry 0 2 1] }) .flush
    let d := State.ordering (bridge { queueIn .draining 0 0 9 9 with popWaiters := [waiter 1 12 9] }) .flush
    (s.orders .flush 3 false ∧ (s.queue 3).state = .running ∧ (s.queue 3).popEntries ≠ []) ∧
    ((State.ordering (bridge (queueIn .faulted 0 0 9 9)) .flush).orders .flush 3 false ∧
      ((State.ordering (bridge (queueIn .faulted 0 0 9 9)) .flush).queue 3).popEntries = []) ∧
    ((State.ordering State.reset .flush).orders .flush 3 false ∧ ((State.ordering State.reset .flush).queue 3).state = .stopped) ∧
    (d.orders .flush 3 false ∧ d.sys.arrivals = [] ∧ (d.queue 3).state = .draining ∧ d.entriesOf 3 = [] ∧
      (d.queue 3).pushWaiters = [] ∧ (d.queue 3).popEntries = []) := by
  unfold State.orders State.asks
  decide

/-- A queue with a FAILED entry; one whose notice check fires; and a queue that empties with DRAINING to come back to. -/
theorem witness_ClearFaultReissuesFailedEntries :
    let s := State.ordering ((bridge (queueIn .faulted 0 0 200 207)).withReservations
      [entry 200 4 .failed, other 205 1 .closed]) .clearFault
    let f := State.ordering (bridge { queueIn .faulted 0 0 4 4 with noticeArmed := true }) .clearFault
    let d := State.ordering (bridge { queueIn .faulted 4 4 4 4 with resume := .draining }) .clearFault
    (s.orders .clearFault 3 false ∧ (s.queue 3).state = .faulted ∧ ((s.entriesOf 3).map (fun e => e.start)).Nodup ∧
      (∀ e ∈ s.entriesOf 3, e.start = (s.queue 3).commit → e.state ≠ .closed) ∧ (s.queue 3).noticeArmed = false ∧
      s.entriesOf 3 ≠ []) ∧
    (f.orders .clearFault 3 false ∧ (f.queue 3).state = .faulted ∧ f.entriesOf 3 = [] ∧ (f.queue 3).noticeArmed = true ∧
      (f.queue 3).config.threshold ≠ 0 ∧ (f.queue 3).config.threshold ≤ (f.queue 3).visible ∧ (f.queue 3).notices.length < 2) ∧
    (d.orders .clearFault 3 false ∧ (d.queue 3).state = .faulted ∧ (d.queue 3).resume = .draining ∧ d.entriesOf 3 = [] ∧
      (d.queue 3).popEntries = [] ∧ (d.queue 3).visible = 0 ∧ (d.queue 3).pushWaiters = [] ∧ (d.queue 3).popWaiters = []) ∧
    ((State.ordering running .clearFault).orders .clearFault 3 false ∧
      ((State.ordering running .clearFault).queue 3).state ≠ .faulted) := by
  unfold State.orders State.asks
  decide

/-- visible at the threshold of 4, and one below it. -/
theorem witness_ArmNoticeChecksTheQueue :
    let s := fun n => State.ordering (bridge (queueIn .running 0 0 n n)) .armNotice
    ((s 4).orders .armNotice 3 false ∧ ((s 4).queue 3).state ≠ .stopped ∧ ((s 4).queue 3).config.threshold ≠ 0 ∧
      ((s 4).queue 3).config.threshold ≤ ((s 4).queue 3).visible ∧ ((s 4).queue 3).notices.length < 2) ∧
    ((s 3).orders .armNotice 3 false ∧ ¬((s 3).queue 3).config.threshold ≤ ((s 3).queue 3).visible) ∧
    ((State.ordering State.reset .armNotice).orders .armNotice 3 false ∧
      ((State.ordering State.reset .armNotice).queue 3).state = .stopped) := by
  unfold State.orders State.asks
  decide

/-- A soft reset, 64 tracked transactions, and a tag that is tracked. -/
theorem witness_StalledRequestWaitsForItsTag :
    (resetting.sys.arrivals ++ [pushOf 1]).head? = some (pushOf 1) ∧ resetting.arbiterDue = false ∧
      resetting.link.softReset = true ∧
    64 ≤ (State.tracking running (List.replicate 64 (popping 1))).sys.tracker.length ∧
    (∃ x ∈ (State.tracking running [popping 1]).sys.tracker,
      x.request.requester = (popOf 2).requester ∧ x.request.tag = (popOf 2).tag) ∧
    (let q : Request := ⟨5, 2, .read, 0x5000, words 2⟩
     let s := (State.tracking running [dropping 6 5]).withSys ⟨[dropping 6 5], [q], []⟩
     s.transaction q.requester q.tag = some (dropping 6 5) ∧ (dropping 6 5).beatMode = some .dropping ∧
       (dropping 6 5).answer = some ⟨.retry, some .full, []⟩ ∧ (dropping 6 5).request.direction = .write ∧
       (dropping 6 5).received + 1 = (dropping 6 5).request.beats.val ∧ s.sys.arrivals = [q] ∧ s.link.softReset = false ∧
       s.sys.tracker.length ≤ 64) := by decide

/-- The last word of a page fits; one word more crosses. -/
theorem witness_RefusedRequestIsAnsweredAtOnce :
    let at0 : Addr → Nat → Request := fun a L => ⟨5, 2, .write, a, words L⟩
    (running.takes (at0 0x1001 1) ∧ (at0 0x1001 1).address.toNat % 8 ≠ 0) ∧
    (running.takes (at0 0x1FF8 2) ∧ (at0 0x1FF8 2).address.toNat % 8 = 0 ∧
      4096 < (at0 0x1FF8 2).address.toNat % 4096 + 8 * (at0 0x1FF8 2).beats.val) ∧
    (running.takes (at0 0x2FF8 1) ∧ wellPlaced (at0 0x2FF8 1) ∧ running.decode (at0 0x2FF8 1) = .refused .kind) := by
  unfold State.takes wellPlaced
  decide

theorem witness_AccessIsCarriedToMemory :
    let at0 : Direction → Request := fun d => ⟨5, 2, d, 0x5000, words 16⟩
    (running.takes (at0 .read) ∧ wellPlaced (at0 .read) ∧ running.decode (at0 .read) = .access 0x5000) ∧
    (running.takes (at0 .write) ∧ wellPlaced (at0 .write) ∧ running.decode (at0 .write) = .access 0x5000) := by
  unfold State.takes wellPlaced
  decide

/-- The last byte of a window's limit page, and an address no window contains. -/
theorem witness_LowestApplicableWindowDecides :
    let q : Request := ⟨5, 2, .write, 0x2FFF, words 1⟩
    let applies := fun (a : Request) (j : WindowIndex) => (running.windows[j]).enabled = true ∧
      (running.windows[j]).base.toNat ≤ a.address.toNat ∧ a.address.toNat ≤ (running.windows[j]).limit.toNat + 4095 ∧
      (running.windows[j]).classes.getLsbD (running.classOf a.requester).val = true
    (applies q 1 ∧ ∀ j, j < 1 → ¬applies q j) ∧ ∀ j : WindowIndex, ¬applies ⟨5, 2, .write, 0x3000, words 1⟩ j := by decide

theorem witness_BeatModeDecidesWhatABeatDoes :
    let g : Nat → Transaction := fun n => ⟨⟨5, 2, .write, 0x5000, words 2⟩, .access 0x5000, some .gathering, n, [], none⟩
    let s := fun (x : Transaction) => State.tracking running [x]
    ((s (g 0)).transaction 5 2 = some (g 0) ∧ (g 0).received + 1 < (g 0).request.beats.val ∧
      (g 0).decoded = .access 0x5000) ∧
    ((s (g 1)).transaction 5 2 = some (g 1) ∧ (g 1).received + 1 = (g 1).request.beats.val) ∧
    ((s (dropping 2 0)).transaction 5 2 = some (dropping 2 0) ∧
      (dropping 2 0).received + 1 < (dropping 2 0).request.beats.val) ∧
    ((s (dropping 2 1)).transaction 5 2 = some (dropping 2 1) ∧
      (dropping 2 1).received + 1 = (dropping 2 1).request.beats.val ∧ (s (dropping 2 1)).sys.arrivals = []) ∧
    ((s (pushing 2 .waiting 0)).transaction 5 2 = some (pushing 2 .waiting 0) ∧
      (pushing 2 .waiting 0).beatMode = some .waiting) ∧
    ((s (pushing 2 .handing 2)).transaction 5 2 = some (pushing 2 .handing 2) ∧
      (pushing 2 .handing 2).received = (pushing 2 .handing 2).request.beats.val) := by decide

/-- A push of 16 words into exactly 17 free words, with 47 entries in use. -/
theorem witness_PushThatFitsIsGranted :
    let s := (bridge (queueIn .running 0 0 495 495)).withReservations (List.replicate 47 { entry 0 1 .filling with queue := 4 })
    s.takes (pushOf 16) ∧ wellPlaced (pushOf 16) ∧ s.decode (pushOf 16) = .push 3 ∧ (s.queue 3).state = .running ∧
      (s.queue 3).pushWaiters = [] ∧ 1 + (pushOf 16).beats.val = (s.queue 3).free ∧ s.reservations.length < 48 := by
  unfold State.takes wellPlaced
  decide

theorem witness_PopThatVisibleCanSatisfyIsGranted :
    let s := bridge (queueIn .draining 0 0 16 16)
    s.takes (popOf 16) ∧ wellPlaced (popOf 16) ∧ s.decode (popOf 16) = .pop 3 ∧ (s.queue 3).config.ringSize ≠ 0 ∧
      (s.queue 3).state = .draining ∧ (s.queue 3).popWaiters = [] ∧ (popOf 16).beats.val = (s.queue 3).visible ∧
      (s.queue 3).popEntries.length < 16 := by
  unfold State.takes wellPlaced
  decide

theorem witness_QueueStateRefusesPushesAndPops :
    (∀ st ∈ [QueueState.stopped, .stopping, .draining, .faulted],
      (bridge (queueIn st 0 0 0 0)).takes (pushOf 1) ∧ wellPlaced (pushOf 1) ∧
        (bridge (queueIn st 0 0 0 0)).decode (pushOf 1) = .push 3 ∧ ((bridge (queueIn st 0 0 0 0)).queue 3).state = st) ∧
    (∀ st ∈ [QueueState.stopped, .stopping, .draining, .faulted],
      (bridge (queueIn st 0 0 0 0)).takes (popOf 1) ∧ wellPlaced (popOf 1) ∧
        (bridge (queueIn st 0 0 0 0)).decode (popOf 1) = .pop 3) ∧
    (let s := bridge (queueIn .draining 0 0 0 0)
     (s.queue 3).popWaiters = [] ∧ (s.queue 3).visible < (popOf 1).beats.val ∧ s.entriesOf 3 = []) := by
  unfold State.takes wellPlaced
  decide

/-- 31 hold slots in use, and 32. -/
theorem witness_WaitingRequestJoinsItsList :
    let s := fun n => bridge { queueIn .running 0 0 0 510 with pushWaiters := List.replicate n (waiter 1 12 9) }
    let p := fun n => bridge { queueIn .running 0 0 0 510 with popWaiters := List.replicate n (waiter 1 12 9) }
    ((s 31).takes (pushOf 1) ∧ wellPlaced (pushOf 1) ∧ (s 31).decode (pushOf 1) = .push 3 ∧
      ((s 31).queue 3).config.ringSize ≠ 0 ∧ ((s 31).queue 3).state = .running ∧ ((s 31).queue 3).pushWaiters ≠ [] ∧
      (s 31).slotsInUse < 32) ∧
    ((s 32).takes (pushOf 1) ∧ (s 32).decode (pushOf 1) = .push 3 ∧ 32 ≤ (s 32).slotsInUse) ∧
    ((p 31).takes (popOf 1) ∧ wellPlaced (popOf 1) ∧ (p 31).decode (popOf 1) = .pop 3 ∧
      ((p 31).queue 3).popWaiters ≠ [] ∧ (p 31).slotsInUse < 32) ∧
    ((p 32).takes (popOf 1) ∧ 32 ≤ (p 32).slotsInUse) := by
  unfold State.takes wellPlaced
  decide

/-- free of 1 word against a push that needs 2; visible of 0 against a pop of 1. -/
theorem witness_FullAndEmptyQueuesMeetThePolicies :
    let s := fun (p : Policy) => bridge { queueIn .running 0 0 0 511 with config := { ring with fullPolicy := p, emptyPolicy := p } }
    ((s .refuse).takes (pushOf 1) ∧ wellPlaced (pushOf 1) ∧ (s .refuse).decode (pushOf 1) = .push 3 ∧
      ((s .refuse).queue 3).config.ringSize ≠ 0 ∧ ((s .refuse).queue 3).state = .running ∧
      ((s .refuse).queue 3).pushWaiters = [] ∧ ((s .refuse).queue 3).free < 1 + (pushOf 1).beats.val ∧
      ((s .refuse).queue 3).config.fullPolicy = .refuse) ∧
    ((s .latch).takes (pushOf 1) ∧ (s .latch).decode (pushOf 1) = .push 3 ∧ ((s .latch).queue 3).config.fullPolicy = .latch) ∧
    ((s .refuse).takes (popOf 1) ∧ wellPlaced (popOf 1) ∧ (s .refuse).decode (popOf 1) = .pop 3 ∧
      ((s .refuse).queue 3).popWaiters = [] ∧ ((s .refuse).queue 3).visible < (popOf 1).beats.val ∧
      ((s .refuse).queue 3).config.emptyPolicy = .refuse) ∧
    ((s .latch).takes (popOf 1) ∧ (s .latch).decode (popOf 1) = .pop 3 ∧ ((s .latch).queue 3).config.emptyPolicy = .latch) := by
  unfold State.takes wellPlaced
  decide

/-- A push of L words with n beats taken, its entry in this state. -/
def handing (L n : Nat) (e : Entry) : State :=
  State.tracking ((bridge (queueIn .running 0 0 0 34)).withReservations [e, other 17 16 .filling]) [pushing L .handing n]

theorem witness_BeatsBecomeThePayload :
    let f := { entry 0 16 .filling with beatsTaken := 14 }
    let l := { entry 0 16 .filling with beatsTaken := 15 }
    let d := { entry 0 16 .discarding with beatsTaken := 14, cause := some .poison }
    ((handing 16 14 f).transaction 5 2 = some (pushing 16 .handing 14) ∧
      (pushing 16 .handing 14).received < (pushing 16 .handing 14).request.beats.val ∧
      (handing 16 14 f).fillingEntry 5 2 = some f ∧ f.state = .filling ∧ f.cause = none ∧ f.beatsTaken + 1 ≠ f.words.val) ∧
    ((handing 16 15 l).transaction 5 2 = some (pushing 16 .handing 15) ∧ (handing 16 15 l).fillingEntry 5 2 = some l ∧
      l.beatsTaken + 1 = l.words.val) ∧
    ((handing 16 14 d).fillingEntry 5 2 = some d ∧ d.state = .discarding ∧ d.beatsTaken + 1 ≠ d.words.val) := by decide

/-- A DISCARDING record behind which another stands; the youngest record, FILLING, with a poisoned last beat; the last one of a
DRAINING queue; and in STOPPING a record beside another, and the last one. -/
theorem witness_ReadyRecordIsResolved :
    let d := { entry 0 16 .discarding with beatsTaken := 15, cause := some .poison }
    let y := { entry 17 16 .filling with beatsTaken := 15, gathered := List.replicate 15 0 }
    let s := handing 16 15 d
    let u := State.tracking ((bridge (queueIn .running 0 0 0 34)).withReservations [other 0 16 .filling, y]) [pushing 16 .handing 15]
    let g := State.tracking ((bridge (queueIn .draining 0 0 0 17)).withReservations [d]) [pushing 16 .handing 15]
    let v := fun more => State.tracking ((bridge (queueIn .stopping 0 0 0 34)).withReservations (d :: more)) [pushing 16 .handing 15]
    (s.transaction 5 2 = some (pushing 16 .handing 15) ∧ (pushing 16 .handing 15).request.direction = .write ∧
      (pushing 16 .handing 15).beatMode = some .handing ∧ (pushing 16 .handing 15).answer = none ∧
      (pushing 16 .handing 15).received + 1 = (pushing 16 .handing 15).request.beats.val ∧
      s.fillingEntry 5 2 = some d ∧ d.state = .discarding ∧ d.beatsTaken + 1 = d.words.val ∧ d.writesOutstanding = 0 ∧
      (s.queue d.queue).state ≠ .stopping ∧ d.start + BitVec.ofNat 32 (1 + d.words.val) ≠ (s.queue d.queue).reserve ∧
      s.sys.arrivals = [] ∧ s.link.softReset = false) ∧
    (u.transaction 5 2 = some (pushing 16 .handing 15) ∧ u.fillingEntry 5 2 = some y ∧
      (y.state = .filling ∧ ({ beat with poison := true } : Beat).poison = true) ∧ y.beatsTaken + 1 = y.words.val ∧
      y.writesOutstanding = 0 ∧ (u.queue y.queue).state = .running ∧
      y.start + BitVec.ofNat 32 (1 + y.words.val) = (u.queue y.queue).reserve ∧ (∀ q, (u.queue q).pushWaiters = []) ∧
      ∀ k ∈ u.entriesOf y.queue, k.start = (u.queue y.queue).commit → k.start = y.start ∨ k.state ≠ .closed) ∧
    (g.transaction 5 2 = some (pushing 16 .handing 15) ∧ g.fillingEntry 5 2 = some d ∧ g.endsWith d.queue d.start ∧
      (g.queue d.queue).popWaiters = [] ∧ d.start + BitVec.ofNat 32 (1 + d.words.val) = (g.queue d.queue).reserve ∧
      (∀ q, (g.queue q).pushWaiters = [])) ∧
    (∀ more ∈ [[other 17 16 .sealing], []],
      (v more).transaction 5 2 = some (pushing 16 .handing 15) ∧ (v more).fillingEntry 5 2 = some d ∧
        ((v more).queue d.queue).state = .stopping ∧ (∀ q, ((v more).queue q).pushWaiters = []) ∧
        ((v more).queue d.queue).popWaiters = [] ∧ ((v more).onlyEntryAt d.queue d.start ↔ more = []) ∧
        ((v more).queue d.queue).popEntries = []) := by
  unfold State.endsWith State.onlyEntryAt
  decide

theorem noRequestNext_of_empty {s : State} (h : s.pending = []) : s.noRequestNext := by
  intro a rest h'
  rw [h] at h'
  cases h'

/-- The youngest record, with a push that waits for its words; and the last one of a DRAINING queue, with a pop that waits. -/
theorem witness_ReadyRecordIsResolved_after_the_rewind :
    let d := { entry 0 16 .discarding with beatsTaken := 15, cause := some .poison }
    let s := fun st pushers poppers => State.tracking ((bridge { queueIn st 0 0 0 17 with
      pushWaiters := pushers, popWaiters := poppers }).withReservations [d]) [pushing 16 .handing 15]
    (∀ st, ∀ pushers poppers : List Waiter, (s st pushers poppers).noRequestNext) ∧
    ∀ a ∈ [(QueueState.running, [waiter 1 16 9], []), (.draining, [], [waiter 2 4 9])],
      let u := s a.1 a.2.1 a.2.2
      u.transaction 5 2 = some (pushing 16 .handing 15) ∧ u.fillingEntry 5 2 = some d ∧ d.beatsTaken + 1 = d.words.val ∧
        d.writesOutstanding = 0 ∧ u.sys.arrivals = [] ∧ u.link.softReset = false ∧ (u.queue d.queue).state = a.1 ∧
        ((u.queue d.queue).state = .draining → (u.queue d.queue).pushWaiters = []) ∧
        d.start + BitVec.ofNat 32 (1 + d.words.val) = (u.queue d.queue).reserve ∧ u.onlyEntryAt d.queue d.start ∧
        ((u.queue d.queue).pushWaiters ≠ [] ∨ (u.queue d.queue).popWaiters ≠ []) ∧
        ∀ k ∈ u.entriesOf d.queue, k.start = (u.queue d.queue).commit → k.start = d.start ∨ k.state ≠ .closed := by
  refine ⟨fun _ _ _ => noRequestNext_of_empty rfl, ?_⟩
  unfold State.onlyEntryAt
  decide

/-- A payload write of the entry e of queue 3 is outstanding at memory as number 95. -/
def payloadOut (e : Entry) : State :=
  State.awaiting (handing e.words.val e.words.val e) ⟨.payload 3 e.start, .write, 0x2000040008, 1, [beat]⟩

/-- The same in a queue in this state that owns no more than these entries beside e. -/
def payloadOutIn (st : QueueState) (e : Entry) (more : List Entry) : State :=
  ((payloadOut e).withReservations (e :: more)).setQueue 3 (queueIn st 0 0 0 2)

/-- Its header write is. -/
def headerOut (st : QueueState) (e : Entry) (more : List Entry) : State :=
  State.awaiting (State.tracking ((bridge (queueIn st 0 0 0 34)).withReservations (e :: more))
    [pushing e.words.val .handing e.words.val]) (dataHeaderWrite ring e)

theorem witness_PayloadWriteCompletionIsCounted :
    let w := fun n => { entry 0 1 .writing with writesOutstanding := n }
    let d := { entry 0 1 .discarding with writesOutstanding := 2 }
    let r : MemRequest := ⟨.payload 3 0, .write, 0x2000040008, 1, [beat]⟩
    ((payloadOut (w 2)).awaits 95 r ∧ r.owner = .payload 3 0 ∧ (payloadOut (w 2)).entryAt 3 0 = some (w 2) ∧
      (w 2).state = .writing ∧ (payloadOut (w 2)).link.softReset = false) ∧
    ((payloadOut (w 1)).awaits 95 r ∧ (payloadOut (w 1)).entryAt 3 0 = some (w 1) ∧ (w 1).cause = none ∧
      (w 1).kind = .data) ∧
    ((payloadOut d).awaits 95 r ∧ (payloadOut d).entryAt 3 0 = some d ∧ d.writesOutstanding = 2) := by
  unfold State.awaits
  decide

/-- A record that another follows; the youngest, with a cause; the last one of a DRAINING queue; and in STOPPING a record beside
another, and the last one. -/
theorem witness_FailedPayloadEndsInAFiller :
    let e := { entry 0 1 .writing with writesOutstanding := 1, cause := some .payloadError }
    let d := { e with state := .discarding, cause := some .stop }
    let s := payloadOut e
    let y := payloadOutIn .running e []
    let g := payloadOutIn .draining e []
    let v := payloadOutIn .stopping d
    (s.awaits 95 ⟨.payload 3 0, .write, 0x2000040008, 1, [beat]⟩ ∧ s.entryAt 3 0 = some e ∧ e.writesOutstanding = 1 ∧
      e.beatsTaken = e.words.val ∧ s.sys.arrivals = [] ∧ s.link.softReset = false ∧ e.state = .writing ∧
      (s.queue 3).state ≠ .stopping ∧ e.start + BitVec.ofNat 32 (1 + e.words.val) ≠ (s.queue 3).reserve) ∧
    s.writeReady e.requester e.tag ∧
    (y.awaits 95 ⟨.payload 3 0, .write, 0x2000040008, 1, [beat]⟩ ∧ y.entryAt 3 0 = some e ∧ (y.queue 3).state = .running ∧
      e.start + BitVec.ofNat 32 (1 + e.words.val) = (y.queue 3).reserve ∧ (∀ k, (y.queue k).pushWaiters = []) ∧
      ∀ k ∈ y.entriesOf 3, k.start = (y.queue 3).commit → k.start = 0 ∨ k.state ≠ .closed) ∧
    y.writeReady e.requester e.tag ∧
    (g.awaits 95 ⟨.payload 3 0, .write, 0x2000040008, 1, [beat]⟩ ∧ g.entryAt 3 0 = some e ∧ g.endsWith 3 0 ∧
      (g.queue 3).popWaiters = [] ∧ e.start + BitVec.ofNat 32 (1 + e.words.val) = (g.queue 3).reserve ∧
      (∀ k, (g.queue k).pushWaiters = [])) ∧
    g.writeReady e.requester e.tag ∧
    (∀ more ∈ [[other 2 16 .sealing], []],
      (v more).awaits 95 ⟨.payload 3 0, .write, 0x2000040008, 1, [beat]⟩ ∧ (v more).entryAt 3 0 = some d ∧
        d.state = .discarding ∧ ((v more).queue 3).state = .stopping ∧ (∀ k, ((v more).queue k).pushWaiters = []) ∧
        ((v more).queue 3).popWaiters = [] ∧ ((v more).onlyEntryAt 3 0 ↔ more = []) ∧ ((v more).queue 3).popEntries = []) ∧
    (v []).writeReady d.requester d.tag := by
  refine ⟨?_, ⟨pushing 1 .handing 1, by decide⟩, ?_, ⟨pushing 1 .handing 1, by decide⟩, ?_, ⟨pushing 1 .handing 1, by decide⟩, ?_,
    ⟨pushing 1 .handing 1, by decide⟩⟩ <;>
    simp only [State.awaits, State.endsWith, State.onlyEntryAt] <;> decide

/-- The youngest record, with a push that waits for its words; and the last one of a DRAINING queue, with a pop that waits. -/
theorem witness_FailedPayloadEndsInAFiller_after_the_rewind :
    let e := { entry 0 1 .writing with writesOutstanding := 1, cause := some .payloadError }
    let s := fun st pushers poppers => (payloadOutIn st e []).setQueue 3 { queueIn st 0 0 0 2 with
      pushWaiters := pushers, popWaiters := poppers }
    (∀ st, ∀ pushers poppers : List Waiter,
      (s st pushers poppers).noRequestNext ∧ (s st pushers poppers).writeReady e.requester e.tag) ∧
    ∀ a ∈ [(QueueState.running, [waiter 1 16 9], []), (.draining, [], [waiter 2 4 9])],
      let u := s a.1 a.2.1 a.2.2
      u.awaits 95 ⟨.payload 3 0, .write, 0x2000040008, 1, [beat]⟩ ∧ u.entryAt 3 0 = some e ∧ e.writesOutstanding = 1 ∧
        e.beatsTaken = e.words.val ∧ u.sys.arrivals = [] ∧ u.link.softReset = false ∧ e.state = .writing ∧
        (u.queue 3).state = a.1 ∧ ((u.queue 3).state = .draining → (u.queue 3).pushWaiters = []) ∧
        e.start + BitVec.ofNat 32 (1 + e.words.val) = (u.queue 3).reserve ∧ u.onlyEntryAt 3 0 ∧
        ((u.queue 3).pushWaiters ≠ [] ∨ (u.queue 3).popWaiters ≠ []) ∧
        ∀ k ∈ u.entriesOf 3, k.start = (u.queue 3).commit → k.start = 0 ∨ k.state ≠ .closed := by
  refine ⟨fun _ _ _ => ⟨noRequestNext_of_empty rfl, pushing 1 .handing 1, rfl, rfl, rfl, rfl⟩, ?_⟩
  unfold State.awaits State.onlyEntryAt
  decide

/-- A record that is not the oldest, DATA and FILLER. -/
theorem witness_HeaderWriteOkClosesAndCommits_closed :
    let y := entry 17 16 .sealing
    let f := { entry 17 16 .sealing with kind := .filler }
    let s := headerOut .running y [other 0 16 .sealing]
    (s.awaits 95 (dataHeaderWrite ring y) ∧ s.entryAt 3 17 = some y ∧ y.state = .sealing ∧ (17 : Position) ≠ (s.queue 3).commit ∧
      (∀ k ∈ s.entriesOf 3, k.start = (s.queue 3).commit → k.state ≠ .closed) ∧ s.sys.arrivals = [] ∧
      s.link.softReset = false) ∧
    s.writeReady y.requester y.tag ∧
    ((headerOut .running f [other 0 16 .sealing]).entryAt 3 17 = some f ∧ f.kind = .filler) := by
  refine ⟨by unfold State.awaits; decide, ⟨pushing 16 .handing 16, by decide⟩, by decide⟩

/-- The oldest record of 1 word, its header write at memory, in a queue in this state with these pop waiters. -/
def oldestOut (st : QueueState) (armed : Bool) (ws : List Waiter) (more : List Entry) : State :=
  (headerOut st (entry 0 1 .sealing) more).setQueue 3 { queueIn st 0 0 0 34 with
    config := { ring with threshold := 2 }, noticeArmed := armed, popWaiters := ws }

/-- What every clause about the oldest record asks. -/
theorem oldestOut_meets (st : QueueState) (armed : Bool) (ws : List Waiter) (more : List Entry) (h : st ≠ .stopping)
    (hm : more = [] ∨ more = [other 2 16 .sealing]) :
    let e := entry 0 1 .sealing
    let s := oldestOut st armed ws more
    (s.awaits 95 (dataHeaderWrite ring e) ∧ s.entryAt 3 0 = some e ∧ (s.queue 3).state ≠ .stopping ∧
      (0 : Position) = (s.queue 3).commit ∧
      (∀ k ∈ s.entriesOf 3, k.start = e.start + BitVec.ofNat 32 (1 + e.words.val) → k.state ≠ .closed) ∧
      s.sys.arrivals = [] ∧ s.link.softReset = false) ∧ s.writeReady e.requester e.tag := by
  obtain rfl | rfl := hm
  · exact ⟨⟨rfl, rfl, h, rfl,
      (by decide : ∀ k ∈ [entry 0 1 .sealing], k.start = 2 → k.state ≠ .closed), rfl, rfl⟩,
      ⟨pushing 1 .handing 1, rfl, rfl, rfl, rfl⟩⟩
  · exact ⟨⟨rfl, rfl, h, rfl,
      (by decide : ∀ k ∈ [entry 0 1 .sealing, other 2 16 .sealing], k.start = 2 → k.state ≠ .closed), rfl, rfl⟩,
      ⟨pushing 1 .handing 1, rfl, rfl, rfl, rfl⟩⟩

/-- The consequences of R35: the notice check, which fires or not; a pop waiter that is granted, stays, or is answered
DRAINED; and a push waiter of queue 4 that takes the freed entry. -/
theorem witness_HeaderWriteOkClosesAndCommits :
    let x := fun (s : State) => { s.queue 3 with commit := 2 }
    let two := [other 2 16 .sealing]
    let p := (oldestOut .running false [] two).setQueue 4 { queueIn .running 0 0 0 510 with pushWaiters := [waiter 1 1 9] }
    (let s := oldestOut .running false [] two
     0 < (x s).visible ∧ (∀ k, (s.queue k).pushWaiters = []) ∧ (x s).popWaiters = [] ∧ (x s).noticeArmed = false) ∧
    (let s := oldestOut .faulted true [] two
     (x s).noticeArmed = true ∧ (x s).config.threshold ≠ 0 ∧ (x s).config.threshold ≤ (x s).visible ∧
       (x s).notices.length < 2) ∧
    (let s := oldestOut .running false [waiter 1 2 9] two
     (x s).popWaiters = [waiter 1 2 9] ∧ (waiter 1 2 9).length.val ≤ (x s).visible ∧ (x s).popEntries.length < 16 ∧
       (x s).state = .running) ∧
    (let s := oldestOut .running false [waiter 1 3 9] two
     (x s).visible < (waiter 1 3 9).length.val ∧ ¬((x s).state = .draining ∧ s.onlyEntryAt 3 0)) ∧
    (let s := oldestOut .draining false [waiter 1 3 9] []
     (x s).visible < (waiter 1 3 9).length.val ∧ (x s).state = .draining ∧ s.onlyEntryAt 3 0) ∧
    ((p.queue 4).pushWaiters = [waiter 1 1 9] ∧ (∀ j, j ≠ 4 → (p.queue j).pushWaiters = []) ∧
      1 + (waiter 1 1 9).length.val ≤ (p.queue 4).free ∧ p.reservations.length ≤ 48 ∧ p.pending = []) := by
  unfold State.onlyEntryAt
  decide

/-- The oldest record with a CLOSED one behind it: 19 words become visible, the check fires, and a pop waits. -/
theorem witness_HeaderWriteOkClosesAndCommits_in_general :
    let e := entry 0 1 .sealing
    let s := oldestOut .running true [waiter 1 4 9] [other 2 16 .closed]
    let passed := (((s.clearOutputs.numberFreed 95).setEntry { e with state := .closed }).respondedTo e.requester e.tag .ok
      []).passClosed 3 s.reservations.length
    (s.awaits 95 (dataHeaderWrite ring e) ∧ s.entryAt 3 0 = some e ∧ (s.queue 3).state ≠ .stopping ∧
      (0 : Position) = (s.queue 3).commit ∧ s.sys.arrivals = [] ∧ s.link.softReset = false) ∧
    s.writeReady e.requester e.tag ∧ s.noRequestNext ∧
    ((passed.queue 3).visible = 19 ∧ passed.reservations = [] ∧ (passed.queue 3).noticeArmed = true ∧
      (passed.queue 3).config.threshold ≠ 0 ∧ (passed.queue 3).config.threshold ≤ (passed.queue 3).visible ∧
      (passed.queue 3).notices.length < 2 ∧ (passed.queue 3).popWaiters ≠ []) :=
  ⟨by unfold State.awaits; decide, ⟨pushing 1 .handing 1, by decide⟩, noRequestNext_of_empty rfl, by decide⟩

/-- Beside another entry, and as the last one; DATA and FILLER. -/
theorem witness_HeaderWriteInStoppingFreesTheEntry :
    let o := entry 0 16 .sealing
    let f := { o with kind := .filler }
    (∀ more ∈ [[other 17 16 .sealing], []],
      let s := headerOut .stopping o more
      s.awaits 95 (dataHeaderWrite ring o) ∧ s.entryAt 3 0 = some o ∧ o.state = .sealing ∧ o.kind = .data ∧
        (s.queue 3).state = .stopping ∧ (∀ k, (s.queue k).pushWaiters = []) ∧ (s.queue 3).popWaiters = [] ∧
        (s.onlyEntryAt 3 0 ↔ more = []) ∧ (s.queue 3).popEntries = [] ∧ s.sys.arrivals = [] ∧ s.link.softReset = false) ∧
    (headerOut .stopping o []).writeReady o.requester o.tag ∧
    ((headerOut .stopping f []).entryAt 3 0 = some f ∧ f.kind = .filler) := by
  refine ⟨by unfold State.awaits State.onlyEntryAt; decide, ⟨pushing 16 .handing 16, by decide⟩, by decide⟩

theorem witness_HeaderWriteErrorFaultsTheQueue :
    let o := entry 0 16 .sealing
    (∀ st ∈ [QueueState.running, .draining, .faulted],
      (headerOut st o []).awaits 95 (dataHeaderWrite ring o) ∧ (headerOut st o []).entryAt 3 0 = some o ∧ o.state = .sealing ∧
        (headerOut st o []).sys.arrivals = [] ∧ (headerOut st o []).link.softReset = false ∧
        ((headerOut st o []).queue 3).state = st) ∧
    (headerOut .running o []).writeReady o.requester o.tag ∧
    ¬((waiter 1 4 9).requester = o.requester ∧ (waiter 1 4 9).tag = o.tag) := by
  refine ⟨by unfold State.awaits; decide, ⟨pushing 16 .handing 16, by decide⟩, by decide⟩

theorem witness_CommitAdvancePassesTheClosedPrefix :
    let s := (bridge { queueIn .running 0 0 0 34 with nextSequence := 9 }).withReservations
      [entry 0 16 .closed, other 17 16 .sealing]
    tiles (s.queue 3).reserve (s.queue 3).nextSequence (s.entriesOf 3) (s.queue 3).commit 7 ∧
      ((s.entriesOf 3).map (fun e => recordWords e.words)).sum ≤ 2097152 ∧
      s.entriesOf 3 = [entry 0 16 .closed] ++ [other 17 16 .sealing] ∧ (∀ e ∈ [entry 0 16 .closed], e.state = .closed) ∧
      ∀ e, [other 17 16 .sealing].head? = some e → e.state ≠ .closed := by
  refine ⟨⟨rfl, rfl, rfl, rfl, rfl, rfl⟩, by decide, by decide, by decide, ?_⟩
  rintro e h
  cases h
  decide

/-- 47 entries in use and a head that fits; and the same with the arbiter's run put off behind a push that fits. -/
theorem witness_ArbiterLeavesNoEligibleHead :
    let s := (bridge { queueIn .running 0 0 0 0 with pushWaiters := [waiter 1 12 9] }).withReservations
      (List.replicate 47 (entry 0 1 .filling))
    let d := ((running.setQueue 9 { queueIn .running 0 0 0 312 with pushWaiters := [waiter 2 2 9] }).withReservations
      (List.replicate 47 { entry 0 1 .filling with queue := 4 })).withArbiterDue true
    (s.reservations.length < 48 ∧ s.earliestEligible = some (3, waiter 1 12 9) ∧ s.sys.arrivals = [] ∧ s.pending = []) ∧
    (d.arbiterDue = true ∧ (d.withArbiterDue false).takes (pushOf 4) ∧ wellPlaced (pushOf 4) ∧ d.decode (pushOf 4) = .push 3 ∧
      (d.queue 3).state = .running ∧ (d.queue 3).pushWaiters = [] ∧ 1 + (pushOf 4).beats.val ≤ (d.queue 3).free ∧
      d.reservations.length = 47) := by
  unfold State.takes wellPlaced
  decide

/-- A push head of 12 words that fits exactly; a pop head of 12 words that visible just satisfies, and one that it misses by one
word in DRAINING. -/
theorem witness_ReexaminationStopsAtAHeadThatMustStay :
    let s := bridge { queueIn .running 0 0 0 499 with pushWaiters := [waiter 1 12 9] }
    let p := fun st n => bridge { queueIn st 0 0 n n with popWaiters := [waiter 1 12 9] }
    ((s.queue 3).pushWaiters = waiter 1 12 9 :: [] ∧ 1 + (waiter 1 12 9).length.val = (s.queue 3).free ∧
      s.reservations.length < 48) ∧
    (((p .running 12).queue 3).popWaiters = waiter 1 12 9 :: [] ∧ ((p .running 12).queue 3).state = .running ∧
      (waiter 1 12 9).length.val = ((p .running 12).queue 3).visible ∧ ((p .running 12).queue 3).popEntries.length < 16) ∧
    (((p .draining 11).queue 3).state = .draining ∧ ((p .draining 11).queue 3).visible < (waiter 1 12 9).length.val ∧
      (p .draining 11).entriesOf 3 = []) := by decide

theorem witness_PassageTakesTheEarliestOfTheFirstSource :
    let h : MemRequest := oneWordWrite (.header 5 0) 0 0
    let r : MemRequest := ⟨.passThrough 1 1, .read, 0, 1, []⟩
    let s := fun n => State.reset.withMem ⟨[r, h, h], (List.range n).map (fun n => ⟨n, h⟩), []⟩
    ((s 95).mem.passed.length < 96 ∧ (s 95).mem.waiting = [r] ++ h :: [h] ∧
      (∀ k ∈ [r], h.owner.source < k.owner.source) ∧ ∀ k ∈ [h], h.owner.source ≤ k.owner.source) ∧
    96 ≤ (s 96).mem.passed.length := by decide

theorem witness_UnknownCompletionIsDiscarded : ∀ p ∈ (payloadOut (entry 0 1 .writing)).mem.passed, p.number ≠ 94 := by decide

theorem witness_PassThroughAccessIsAnswered :
    let x : Direction → Nat → Transaction := fun d n => ⟨⟨6, 1, d, 0x5000, words 16⟩, .access 0x5000, none, n, [], none⟩
    let s := State.awaiting (State.tracking running [x .read 0]) ⟨.passThrough 6 1, .read, 0x5000, 16, []⟩
    let w := State.awaiting (State.tracking running [x .write 16]) ⟨.passThrough 6 1, .write, 0x5000, 16, List.replicate 16 beat⟩
    (s.awaits 95 ⟨.passThrough 6 1, .read, 0x5000, (x .read 0).request.beats.val, []⟩ ∧ s.transaction 6 1 = some (x .read 0) ∧
      (x .read 0).request.direction = .read ∧ (List.replicate 16 (0#64)).length = (x .read 0).request.beats.val ∧
      s.sys.arrivals = [] ∧ s.link.softReset = false) ∧
    (w.awaits 95 ⟨.passThrough 6 1, .write, 0x5000, (x .write 16).request.beats.val, List.replicate 16 beat⟩ ∧
      w.transaction 6 1 = some (x .write 16) ∧ (x .write 16).received = (x .write 16).request.beats.val) := by
  unfold State.awaits
  decide

/-- The pop of section 4.9 at its first and at its last read, a younger pop behind it. -/
def twoPops (reads : Nat) : State :=
  State.awaiting (State.tracking (bridge { queueIn .running 1020 1027 1027 1027 with
    popEntries := [⟨1020, words 6, 6, 1, reads, false, [none, none, none, none, some 5, some 6]⟩, popEntry 1026 1 1] })
      [popping 6]) ⟨.popRead 3 1020 0, .read, 0x2000040FE0, 4, []⟩

/-- The last read of the only pop of a queue in this state, one word, with visible 0 and this mark. -/
def lastPop (st : QueueState) (errorSeen : Bool) (more : List Entry) : State :=
  State.awaiting (State.tracking ((bridge { queueIn st 0 1 1 1 with
    popEntries := [⟨0, words 1, 6, 1, 1, errorSeen, [none]⟩] }).withReservations more)
      [popping 1]) ⟨.popRead 3 0 0, .read, 0x2000040000, 1, []⟩

/-- A first read and a last read of a pop with a younger one behind it; and the last pop of a queue that thereby ends. -/
theorem witness_PopReadsFillThePopAndAnswerIt :
    let e : Nat → PopEntry := fun n => ⟨1020, words 6, 6, 1, n, false, [none, none, none, none, some 5, some 6]⟩
    ((twoPops 2).awaits 95 ⟨.popRead 3 1020 0, .read, 0x2000040FE0, [1#64, 2, 3, 4].length, []⟩ ∧
      ((twoPops 2).queue 3).popEntryAt 1020 = some (e 2) ∧ (e 2).readsOutstanding = 2 ∧ (twoPops 2).link.softReset = false) ∧
    ((twoPops 1).awaits 95 ⟨.popRead 3 1020 0, .read, 0x2000040FE0, [1#64, 2, 3, 4].length, []⟩ ∧
      ((twoPops 1).queue 3).popEntries = [] ++ e 1 :: [popEntry 1026 1 1] ∧
      (∀ k, k ∈ [] ∨ k ∈ [popEntry 1026 1 1] → k.start ≠ 1020) ∧ (e 1).errorSeen = false ∧
      (e 1).returned.take 0 ++ [1#64, 2, 3, 4].map some ++ (e 1).returned.drop (0 + [1#64, 2, 3, 4].length) =
        [1#64, 2, 3, 4, 5, 6].map some ∧
      (twoPops 1).transaction 6 1 = some (popping 6) ∧ (popping 6).request.direction = .read ∧ (twoPops 1).sys.arrivals = []) ∧
    (∀ st ∈ [QueueState.stopping, .draining],
      let s := lastPop st false []
      s.awaits 95 ⟨.popRead 3 0 0, .read, 0x2000040000, [7#64].length, []⟩ ∧
        (s.queue 3).popEntries = [] ++ ⟨0, words 1, 6, 1, 1, false, [none]⟩ :: [] ∧ s.entriesOf 3 = [] ∧ (s.queue 3).state = st ∧
        (s.queue 3).visible = 0 ∧ (s.queue 3).pushWaiters = [] ∧ (s.queue 3).popWaiters = [] ∧
        s.transaction 6 1 = some (popping 1) ∧ s.link.softReset = false) := by
  refine ⟨by unfold State.awaits; decide, ⟨by unfold State.awaits; decide, by decide, ?_, by decide⟩, by unfold State.awaits; decide⟩
  intro k h
  simp at h
  subst h
  decide

/-- The pop in a queue in this state, with so many words reserved and these waiters. -/
def answeredBefore (st : QueueState) (pushers poppers : List Waiter) : State :=
  State.awaiting (State.tracking (bridge { queueIn st 0 1 1 1 with
    popEntries := [⟨0, words 1, 6, 1, 1, false, [none]⟩], pushWaiters := pushers, popWaiters := poppers }) [popping 1])
      ⟨.popRead 3 0 0, .read, 0x2000040000, 1, []⟩

/-- The last read of a pop where a push and pops wait; and in DRAINING, where pops wait. -/
theorem witness_PopReadsFillThePopAndAnswerIt_with_waiters :
    ∀ a ∈ [(QueueState.running, [waiter 1 16 9], [waiter 2 4 9]), (.draining, [], [waiter 2 4 9, waiter 3 1 9])],
      let s := answeredBefore a.1 a.2.1 a.2.2
      s.awaits 95 ⟨.popRead 3 0 0, .read, 0x2000040000, [7#64].length, []⟩ ∧
        (s.queue 3).popEntries = [] ++ ⟨0, words 1, 6, 1, 1, false, [none]⟩ :: [] ∧ s.transaction 6 1 = some (popping 1) ∧
        (popping 1).request.direction = .read ∧ (popping 1).answer = none ∧ s.sys.arrivals = [] ∧ s.link.softReset = false ∧
        (s.queue 3).state = a.1 ∧ (s.queue 3).pushWaiters = a.2.1 ∧ (s.queue 3).popWaiters = a.2.2 := by
  unfold State.awaits
  decide

/-- The last read fails; or the other read has failed, and the last one completes OK. In STOPPING, beside an entry and as the
last thing of the queue. -/
theorem witness_FailedPopFaultsTheQueue :
    let e : PopEntry := ⟨1020, words 6, 6, 1, 1, false, [none, none, none, none, some 5, some 6]⟩
    ((twoPops 1).awaits 95 ⟨.popRead 3 1020 0, .read, 0x2000040FE0, 4, []⟩ ∧
      ((twoPops 1).queue 3).popEntries = [] ++ e :: [popEntry 1026 1 1] ∧ e.readsOutstanding = 1 ∧
      ((twoPops 1).queue 3).state = .running ∧ (twoPops 1).sys.arrivals = [] ∧ (twoPops 1).link.softReset = false) ∧
    (∀ k, k ∈ [] ∨ k ∈ [popEntry 1026 1 1] → k.start ≠ 1020) ∧
    (∀ st ∈ [QueueState.faulted, .stopping], ∀ more ∈ [[], [entry 1 1 .sealing]],
      let s := lastPop st true more
      s.awaits 95 ⟨.popRead 3 0 0, .read, 0x2000040000, 1, []⟩ ∧
        (s.queue 3).popEntries = [] ++ ⟨0, words 1, 6, 1, 1, true, [none]⟩ :: [] ∧ (s.queue 3).state = st ∧
        (s.queue 3).pushWaiters = [] ∧ (s.queue 3).popWaiters = [] ∧ (s.entriesOf 3 = [] ↔ more = []) ∧
        s.sys.arrivals = [] ∧ s.link.softReset = false) := by
  refine ⟨by unfold State.awaits; decide, ?_, by unfold State.awaits; decide⟩
  intro k h
  simp at h
  subst h
  decide

/-- visible at the threshold and one below it. -/
theorem witness_NoticeCompletionChecksTheQueue :
    let x := fun n => { queueIn .running 0 0 n n with noticeArmed := true, notices := [⟨0, 0⟩, ⟨0, 0⟩] }
    let s := fun n => State.awaiting (bridge (x n)) (oneWordWrite (.notice 3) 0 0)
    ((s 4).awaits 95 (oneWordWrite (.notice 3) 0 0) ∧ (s 4).link.softReset = false ∧ ((s 4).queue 3).noticeArmed = true ∧
      ((s 4).queue 3).config.threshold ≠ 0 ∧ ((s 4).queue 3).config.threshold ≤ ((s 4).queue 3).visible ∧
      (((s 4).queue 3).notices.erase ⟨0, 0⟩).length < 2) ∧
    ((s 3).awaits 95 (oneWordWrite (.notice 3) 0 0) ∧ ¬((s 3).queue 3).config.threshold ≤ ((s 3).queue 3).visible) := by
  unfold State.awaits
  decide

/-- A transaction of a held push, and one of a held pop. -/
def heldPush (r : Requester) : Transaction := { pushing 4 .waiting 0 with request := { pushOf 4 with requester := r } }
def heldPop (r : Requester) : Transaction := { popping 4 with request := ⟨r, 2, .read, 0x2000, words 4⟩ }

/-- Push waiters of 4 words with deadlines 9 and d, in a queue with so many words reserved; and pop waiters, visible being 4. -/
def pushers (d : Nat) (reserve : Position) (rs : List Requester) : State :=
  State.tracking (bridge { queueIn .running 0 0 0 reserve with
    pushWaiters := rs.map (fun r => waiter r 4 (if r = 1 then 9 else d)) }) [heldPush 1, heldPush 2]
def poppers (visible : Position) (rs : List Requester) : State :=
  State.tracking (bridge { queueIn .running 0 0 visible visible with popWaiters := rs.map (fun r => waiter r 4 9) })
    [heldPop 1, heldPop 2]

/-- Behind the head, the deadlines being equal; and a waiter that another's deadline precedes. -/
theorem witness_ExpiryAnswersTheWaiter_behind_the_head :
    let s := pushers 9 510 [1, 2]
    ((s.queue 3).waiters .push = waiter 1 4 9 :: [] ++ waiter 2 4 9 :: [] ∧
      s.heldRequest 2 2 = some ⟨3, .push, waiter 2 4 9⟩ ∧ (∀ k ∈ s.heldRequests, (waiter 2 4 9).deadline ≤ k.waiter.deadline) ∧
      (∀ k ∈ [waiter 1 4 9] ++ [], ¬(k.requester = 2 ∧ k.tag = 2)) ∧ s.transaction 2 2 = some (heldPush 2) ∧
      (heldPush 2).answer = none ∧ (heldPush 2).request.direction = .write ∧
      (heldPush 2).received < (heldPush 2).request.beats.val ∧ s.sys.arrivals = [] ∧ s.link.softReset = false) ∧
    ((pushers 39 510 [1, 2]).heldRequest 2 2 = some ⟨3, .push, waiter 2 4 39⟩ ∧
      ∃ k ∈ (pushers 39 510 [1, 2]).heldRequests, k.waiter.deadline < (waiter 2 4 39).deadline) := by decide

/-- The head, alone; with a successor that does not fit by one word; and with one that just fits. -/
theorem witness_ExpiryAnswersTheWaiter :
    (∀ a ∈ [((508 : Position), [(1 : Requester)]), (508, [1, 2]), (507, [1, 2])],
      let s := pushers 39 a.1 a.2
      (s.queue 3).pushWaiters = waiter 1 4 9 :: (a.2.tail.map (fun r => waiter r 4 39)) ∧
        s.heldRequest 1 2 = some ⟨3, .push, waiter 1 4 9⟩ ∧ (∀ k ∈ s.heldRequests, (waiter 1 4 9).deadline ≤ k.waiter.deadline) ∧
        s.transaction 1 2 = some (heldPush 1) ∧ s.sys.arrivals = [] ∧ s.link.softReset = false ∧
        (1 + (waiter 2 4 39).length.val ≤ (s.queue 3).free ↔ a.1 = 507) ∧ s.reservations.length < 48) ∧
    (∀ a ∈ [((3 : Position), [(1 : Requester)]), (3, [1, 2]), (4, [1, 2])],
      let s := poppers a.1 a.2
      (s.queue 3).popWaiters = waiter 1 4 9 :: (a.2.tail.map (fun r => waiter r 4 9)) ∧
        s.heldRequest 1 2 = some ⟨3, .pop, waiter 1 4 9⟩ ∧ (∀ k ∈ s.heldRequests, (waiter 1 4 9).deadline ≤ k.waiter.deadline) ∧
        s.transaction 1 2 = some (heldPop 1) ∧ (heldPop 1).answer = none ∧ (heldPop 1).request.direction = .read ∧
        s.sys.arrivals = [] ∧ s.link.softReset = false ∧ (s.queue 3).state = .running ∧
        ((waiter 2 4 9).length.val ≤ (s.queue 3).visible ↔ a.1 = 4) ∧ (s.queue 3).popEntries.length < 16) := by decide

theorem witness_RingPiecesAndQuantities :
    (ringSizeValue ring.ringSize ∧ ring.ringSize ≠ 0 ∧ (1 ≤ 17 ∧ 17 ≤ 17)) ∧
    (let x := queueIn .running 0xFFFFFFF0 0xFFFFFFF8 0 0x1F0
     x.inFlight + x.visible + x.openWords = wordsBetween x.release x.reserve ∧
       wordsBetween x.release x.reserve ≤ x.config.ringSize) :=
  ⟨⟨.inr ⟨9, by decide⟩, by decide, by decide⟩, by decide⟩

theorem witness_HeaderWordHoldsItsFields : (8 : Nat) ≤ 8 := by decide

theorem witness_LayoutsAreReadBackWhole :
    pushWindow.valid ∧ Window.ofBytes pushWindow.bytes = some pushWindow ∧
      (ring.ringSize < 2 ^ 24 ∧ ring.holdLimit < 2 ^ 16 ∧ ring.threshold < 2 ^ 24) ∧ QueueConfig.ofBytes ring.bytes = some ring := by
  unfold Window.valid
  decide

theorem witness_LogAppendAndAttentionLine :
    let full : ExceptionLog := ⟨List.replicate 32 { reason := .align }, 65534⟩
    State.reset.log.entries.length < 32 ∧ (full.entries.length = 32 ∧ full.lost < 65535) ∧
      ({ full with lost := 65535 } : ExceptionLog).lost = 65535 := by decide

/-! The laws hold in a bridge at work: queue 3 RUNNING, 3 words visible and 15 free, a pop and an open record, its payload write
at memory, and a push of 16 words and a pop of 4 that wait. -/

def busy : State :=
  (State.awaiting (State.tracking ((bridge { queueIn .running 0 477 480 497 with
      nextSequence := 8
      popEntries := [popEntry 0 16 1]
      pushWaiters := [waiter 1 16 9]
      popWaiters := [waiter 2 4 9] }).withReservations [{ entry 480 16 .writing with writesOutstanding := 1 }])
    [pushing 16 .handing 16, popping 16, { pushing 16 .waiting 0 with request := { pushOf 16 with requester := 1 } }, heldPop 2])
      ⟨.payload 3 480, .write, 0x2000040F08, 16, List.replicate 16 beat⟩).withPending [.payloadWriteOk 95]

theorem busy_waits : (busy.queue 3).pushWaiters ≠ [] ∧ (busy.queue 3).popWaiters ≠ [] := by decide

theorem busy_step : step busy = .next (run (.payloadWriteOk 95) (busy.withPending [])) := rfl

theorem busy_capacities : CapacityLaw busy where
  tracker := by decide
  reservations := by decide
  popEntries := by decide
  slots := by decide
  notices := by decide
  outstanding := by decide
  log := by decide
  lost := by decide

theorem witness_StepKeepsTheCapacities :
    CapacityLaw busy ∧ LostLaw busy ∧ TrackerLaw busy ∧ NumberLaw busy ∧ (∃ t, step busy = .next t) :=
  ⟨busy_capacities, by unfold LostLaw; decide, by unfold TrackerLaw; decide, by unfold NumberLaw; decide, _, busy_step⟩

theorem witness_StepKeepsTheStateLaws : FaultLaw busy ∧ WaiterLaw busy ∧ ClockLaw busy ∧ (∃ t, step busy = .next t) :=
  ⟨by unfold FaultLaw; decide, by unfold WaiterLaw; decide, by unfold ClockLaw; decide, _, busy_step⟩

/-- In a soft reset with a request stalled at the port, a pop's answer with an entry still left, and the last one. -/
theorem witness_StepKeepsTheSoftResetLaw_carries_on :
    ∀ more ∈ [[entry 1 1 .sealing], []],
      let s := ((lastPop .stopping false more).withLink { Link.reset with softReset := true }).withSys
        ⟨[popping 1], [popOf 2], []⟩
      carriesOn (.popReadOk 95 [7]) = true ∧ s.link.softReset = true ∧ SoftResetLaw s ∧
        ((run (.popReadOk 95 [7]) s.alone).runDown ↔ more = []) := by
  unfold SoftResetLaw State.runDown
  decide

/-- A soft reset that goes on; and one that the last pop's answer completes, with a request stalled at the port and without. -/
theorem witness_StepKeepsTheSoftResetLaw :
    (SoftResetLaw (resetting.withPending [.fetch 0]) ∧ (∃ t, step (resetting.withPending [.fetch 0]) = .next t)) ∧
    (∀ arrivals ∈ [[], [popOf 2]],
      let s := ((lastPop .stopping false []).withLink { Link.reset with softReset := true }).withSys
        ⟨[popping 1], arrivals, []⟩
      s.sys.arrivals = arrivals ∧ s.link.softReset = true ∧ (run (.popReadOk 95 [7]) s).link.softReset = false) ∧
    ∀ s, exec (.popReadOk 95 [7]) s = .next (run (.popReadOk 95 [7]) s) :=
  ⟨⟨by unfold SoftResetLaw; decide, _, rfl⟩, by decide, fun _ => rfl⟩

theorem busy_queue_three : QueueLaw (busy.queue 3) (busy.entriesOf 3) where
  size := by decide
  order := by decide
  span := by decide
  pops := ⟨Nat.le_refl 0, (by decide : 16 ≤ 477)⟩
  oldest := by decide
  tiling := fun _ => ⟨⟨7, rfl, rfl, rfl, rfl⟩, by decide⟩
  stopped := by decide
  pushers := by decide

theorem reset_queue : QueueLaw Queue.reset [] where
  size := by decide
  order := by decide
  span := by decide
  pops := Nat.le_refl 0
  oldest := by decide
  tiling := fun h => absurd h (by decide)
  stopped := by decide
  pushers := by decide

theorem witness_StepKeepsThePositionLaw : PositionLaw busy ∧ (∃ t, step busy = .next t) := by
  refine ⟨fun q => ?_, _, busy_step⟩
  by_cases h : q = 3
  · subst h
    exact busy_queue_three
  · have : busy.queue q = Queue.reset ∧ busy.entriesOf q = [] := by
      revert h
      revert q
      decide
    rw [this.1, this.2]
    exact reset_queue

theorem witness_StepLeavesNoWaiterThatCouldBeGranted :
    PositionLaw busy ∧ WaiterLaw busy ∧ HeadLaw busy ∧ PopHeadLaw busy ∧ ArbiterLaw busy ∧ (∃ t, step busy = .next t) := by
  refine ⟨witness_StepKeepsThePositionLaw.1, by unfold WaiterLaw; decide, by unfold HeadLaw; decide, ?_,
    fun h => absurd h (by decide), _, busy_step⟩
  intro q w ws h
  by_cases hq : q = 3
  · subst hq
    rw [show (busy.queue 3).popWaiters = [waiter 2 4 9] from rfl] at h
    cases h
    exact .inl (by decide)
  · have : ∀ q, q ≠ 3 → (busy.queue q).popWaiters = [] := by decide
    rw [this q hq] at h
    cases h

theorem witness_OnlyTheirCommandsChangeConfigurations :
    (∃ t, exec (.payloadWriteOk 95) busy = .next t) ∧ (∀ p, Instr.payloadWriteOk 95 ≠ .powerOnReset p) ∧
      (busy.queue 3).state ≠ .stopped := by
  exact ⟨⟨_, rfl⟩, by decide, by decide⟩

theorem witness_QueueStatesChangeOnlyByTheirCauses :
    (State.reset.queue 3).state = .stopped ∧ ((bridge (queueIn .faulted 0 0 9 9)).queue 3).state = .faulted ∧
      (resetting.queue 3).state = .stopping ∧ (∃ t, exec (.fetch 0) resetting = .next t) ∧
      (∀ p, Instr.fetch 0 ≠ .powerOnReset p) :=
  ⟨by decide, by decide, by decide, ⟨_, rfl⟩, by decide⟩

end Sys2Proof.Tests
end

namespace Sys2Proof.Machine.Laws

open Sys2Proof Sys2Proof.Machine

/-! ### Hold slots as a sum over the queues -/

/-- The hold slots that the waiters of one queue use (R76). -/
def slotsOf (x : Queue) : Nat := x.pushWaiters.length + x.popWaiters.length

theorem slotsInUse_eq_sum (s : State) : s.slotsInUse = ∑ q : QueueId, slotsOf (s.queue q) := by
  have h : s.queues.toList = List.ofFn s.queue := by
    apply List.ext_getElem
    · simp
    · intro i h1 h2
      rw [List.getElem_ofFn, Vector.getElem_toList]
      rfl
  simp only [State.slotsInUse, h, List.map_ofFn, List.sum_ofFn]
  rfl

/-- Replacing one queue's context changes the slots in use by that queue's share. -/
theorem slotsInUse_setQueue (s : State) (q : QueueId) (x : Queue) :
    (s.setQueue q x).slotsInUse + slotsOf (s.queue q) = s.slotsInUse + slotsOf x := by
  rw [slotsInUse_eq_sum, slotsInUse_eq_sum, ← Finset.add_sum_erase _ _ (Finset.mem_univ q),
    ← Finset.add_sum_erase (a := q) _ (fun p => slotsOf (s.queue p)) (Finset.mem_univ q)]
  have hrest : ∑ p ∈ Finset.univ.erase q, slotsOf ((s.setQueue q x).queue p) =
      ∑ p ∈ Finset.univ.erase q, slotsOf (s.queue p) :=
    Finset.sum_congr rfl (fun p hp => by rw [setQueue_queue_other _ (Finset.ne_of_mem_erase hp)])
  rw [hrest, setQueue_queue_same]
  omega

/-! ### What a command is made of -/

/-- The requester and tag of each tracker entry, by which R134 tells transactions apart. -/
def keys (l : List Transaction) : List (Requester × Tag) := l.map (fun x => (x.request.requester, x.request.tag))

theorem trackerLaw_iff_nodup (s : State) : TrackerLaw s ↔ (keys s.sys.tracker).Nodup := by
  simp [TrackerLaw, keys, List.Nodup, List.pairwise_map]

/-- The elementary changes of State that the operations of the bridge are made of, each with the guard under which it is made: a
pool grows only where it has a free place (R18, R54, R76, R112, R134, R144), the log by the append of R175, a tracker entry or a
request number joins only if no other holds it (R134, R143), and the arbiter's run is put off only where the next command is a
TAKE_REQUEST (R37). -/
inductive Move : State → State → Prop
  /-- Responses, arrivals, and tracker entries that are replaced or freed. -/
  | sys {s : State} {x : SystemPort} : (keys x.tracker).Sublist (keys s.sys.tracker) → Move s (s.withSys x)
  | takes {s : State} {x : Transaction} : s.canTake x.request = true →
      Move s (s.withSys { s.sys with tracker := s.sys.tracker ++ [x] })
  | queue {s : State} {q : QueueId} {x : Queue} :
      x.popEntries.length ≤ (s.queue q).popEntries.length ∨ x.popEntries.length ≤ 16 →
      slotsOf x ≤ slotsOf (s.queue q) ∨ s.slotFree = true ∧ slotsOf x ≤ slotsOf (s.queue q) + 1 →
      x.notices.length ≤ (s.queue q).notices.length ∨ x.notices.length ≤ 2 → Move s (s.setQueue q x)
  | entries {s : State} {l : List Entry} : l.length ≤ s.reservations.length ∨ l.length ≤ 48 → Move s (s.withReservations l)
  | waiting {s : State} {m : MemoryPort} : m.passed.Sublist s.mem.passed → Move s (s.withMem m)
  | passes {s : State} {m : MemoryPort} {p : Passed} : m.passed = s.mem.passed ++ [p] → s.mem.passed.length < 96 →
      p.number < 96 → s.mem.holds p.number = false → Move s (s.withMem m)
  | logs {s : State} {e : LogEntry} : Move s (s.appendLog e)
  | logTaken {s : State} {l : List LogEntry} : l.length ≤ s.log.entries.length → Move s (s.withLog ⟨l, 0⟩)
  | putsOff {s : State} : s.pushArriving = true → Move s (s.withArbiterDue true)
  | useFree {s : State} : Move s s.useFree
  | hold {s : State} {x : HoldUnit} : Move s (s.withHold x)
  | link {s : State} {x : Link} : Move s (s.withLink x)
  | windows {s : State} {x : Vector Window 32} : Move s (s.withWindows x)
  | classes {s : State} {x : Vector RequesterClass 64} : Move s (s.withClasses x)

/-- t is reached from s by elementary changes. -/
def Moves : State → State → Prop := Relation.ReflTransGen Move

@[refl] theorem Moves.refl (s : State) : Moves s s := Relation.ReflTransGen.refl

theorem Moves.trans {s t u : State} (h : Moves s t) (k : Moves t u) : Moves s u := Relation.ReflTransGen.trans h k

theorem Moves.tail {s t u : State} (h : Moves s t) (k : Move t u) : Moves s u := Relation.ReflTransGen.tail h k

/-- One elementary change is a course of them. -/
theorem Move.moves {s t : State} (h : Move s t) : Moves s t := Relation.ReflTransGen.single h

/-! ### What elementary changes keep -/

/-- The append of R175 keeps the log's bounds, and counts as lost only while the log is full. -/
theorem append_bounds (l : ExceptionLog) (e : LogEntry) (hn : l.entries.length ≤ 32) (hl : l.lost ≤ 65535) :
    (l.append e).entries.length ≤ 32 ∧ (l.append e).lost ≤ 65535 ∧ (0 < (l.append e).lost → (l.append e).entries ≠ []) := by
  unfold ExceptionLog.append Config.logEntries Config.lostLimit
  split
  · refine ⟨?_, hl, fun _ => ?_⟩
    · simp only [List.length_append, List.length_singleton]
      omega
    · simp
  · refine ⟨hn, ?_, fun _ hnil => ?_⟩
    · dsimp only
      split <;> omega
    · simp_all

theorem canTake_iff (s : State) (q : Request) : s.canTake q = true ↔
    s.link.softReset = false ∧ s.sys.tracker.length < 64 ∧ (q.requester, q.tag) ∉ keys s.sys.tracker := by
  simp [State.canTake, State.transaction, keys, Transaction.named, and_assoc]

theorem Move.keeps_capacity {s t : State} (h : Move s t) : CapacityLaw s ∧ LostLaw s → CapacityLaw t ∧ LostLaw t := by
  rintro ⟨c, hlost⟩
  obtain ⟨tracker, reservations, popEntries, slots, notices, outstanding, log, lost⟩ := c
  cases h with
  | sys hk => exact ⟨⟨by simpa [keys] using hk.length_le.trans (by simpa [keys] using tracker), reservations, popEntries,
      slots, notices, outstanding, log, lost⟩, hlost⟩
  | takes hk =>
    refine ⟨⟨?_, reservations, popEntries, slots, notices, outstanding, log, lost⟩, hlost⟩
    have := ((canTake_iff _ _).1 hk).2.1
    simp only [withSys_sys, List.length_append, List.length_singleton]
    omega
  | @queue q x hp hs hn =>
    refine ⟨⟨tracker, reservations, fun p => ?_, ?_, fun p => ?_, outstanding, log, lost⟩, hlost⟩
    · have := popEntries q
      rw [setQueue_queue]
      split
      · omega
      · exact popEntries p
    · have hsum := slotsInUse_setQueue s q x
      simp only [State.slotFree, Config.holdSlots, decide_eq_true_eq] at hs
      omega
    · have := notices q
      rw [setQueue_queue]
      split
      · omega
      · exact notices p
  | entries hl => exact ⟨⟨tracker, by rw [withReservations_reservations]; omega, popEntries, slots, notices, outstanding, log,
      lost⟩, hlost⟩
  | waiting hm => exact ⟨⟨tracker, reservations, popEntries, slots, notices, hm.length_le.trans outstanding, log, lost⟩, hlost⟩
  | passes hm hl hn hh => exact ⟨⟨tracker, reservations, popEntries, slots, notices, by
      rw [withMem_mem, hm, List.length_append, List.length_singleton]; omega, log, lost⟩, hlost⟩
  | logs =>
    obtain ⟨h1, h2, h3⟩ := append_bounds s.log _ log lost
    exact ⟨⟨tracker, reservations, popEntries, slots, notices, outstanding, h1, h2⟩, h3⟩
  | logTaken hl => exact ⟨⟨tracker, reservations, popEntries, slots, notices, outstanding, hl.trans log, Nat.zero_le _⟩,
      fun h => absurd h (Nat.lt_irrefl 0)⟩
  | _ => exact ⟨⟨tracker, reservations, popEntries, slots, notices, outstanding, log, lost⟩, hlost⟩

theorem Move.keeps_names {s t : State} (h : Move s t) : TrackerLaw s ∧ NumberLaw s → TrackerLaw t ∧ NumberLaw t := by
  rintro ⟨hk, hn, hlt⟩
  cases h with
  | sys hsub => exact ⟨(trackerLaw_iff_nodup _).2 (((trackerLaw_iff_nodup s).1 hk).sublist hsub), hn, hlt⟩
  | takes ht =>
    refine ⟨(trackerLaw_iff_nodup _).2 ?_, hn, hlt⟩
    have hfresh := ((canTake_iff _ _).1 ht).2.2
    have hold := (trackerLaw_iff_nodup s).1 hk
    simp only [keys, withSys_sys, List.map_append, List.map_cons, List.map_nil] at hfresh hold ⊢
    exact List.nodup_append.2 ⟨hold, List.nodup_singleton _, fun a ha b hb hab =>
      hfresh ((List.mem_singleton.1 hb) ▸ hab ▸ ha)⟩
  | waiting hm => exact ⟨hk, hn.sublist (hm.map _), fun p hp => hlt p (hm.subset hp)⟩
  | passes hm hl hp hh =>
    refine ⟨hk, ?_, fun p hmem => ?_⟩
    · simp only [MemoryPort.holds, List.any_eq_false, decide_eq_true_eq] at hh
      rw [withMem_mem, hm, List.map_append, List.map_singleton]
      refine List.nodup_append.2 ⟨hn, List.nodup_singleton _, fun a ha b hb hab => ?_⟩
      obtain ⟨p, hmem, rfl⟩ := List.mem_map.1 ha
      exact hh p hmem (hab.trans (List.mem_singleton.1 hb))
    · rw [withMem_mem, hm, List.mem_append, List.mem_singleton] at hmem
      obtain hmem | rfl := hmem
      · exact hlt p hmem
      · exact hp
  | _ => exact ⟨hk, hn, hlt⟩

/-- The command queue stays, and the arbiter's run, once put off, stays so; it is put off only where the next command is a
TAKE_REQUEST. -/
theorem Move.keeps_due {s t : State} (h : Move s t) : t.pending = s.pending ∧ (s.arbiterDue = true → t.arbiterDue = true) ∧
    (t.arbiterDue = true → s.arbiterDue = true ∨ ∃ q rest, s.pending = .takeRequest q :: rest) := by
  cases h with
  | putsOff ha =>
    obtain ⟨q, rest, hp, -⟩ := pushArriving_pending ha
    exact ⟨rfl, fun _ => rfl, fun _ => .inr ⟨q, rest, hp⟩⟩
  | _ => exact ⟨rfl, id, .inl⟩

theorem Moves.keeps_capacity {s t : State} (h : Moves s t) (k : CapacityLaw s ∧ LostLaw s) : CapacityLaw t ∧ LostLaw t := by
  induction h with
  | refl => exact k
  | tail _ hm ih => exact hm.keeps_capacity ih

theorem Moves.keeps_names {s t : State} (h : Moves s t) (k : TrackerLaw s ∧ NumberLaw s) : TrackerLaw t ∧ NumberLaw t := by
  induction h with
  | refl => exact k
  | tail _ hm ih => exact hm.keeps_names ih

theorem Moves.keeps_due {s t : State} (h : Moves s t) : t.pending = s.pending ∧ (s.arbiterDue = true → t.arbiterDue = true) ∧
    (t.arbiterDue = true → s.arbiterDue = true ∨ ∃ q rest, s.pending = .takeRequest q :: rest) := by
  induction h with
  | refl => exact ⟨rfl, id, .inl⟩
  | tail _ hm ih =>
    obtain ⟨hp, hkeep, hrise⟩ := ih
    obtain ⟨hp', hkeep', hrise'⟩ := hm.keeps_due
    exact ⟨hp'.trans hp, hkeep' ∘ hkeep, fun hd => (hrise' hd).elim hrise (fun h => .inr (hp ▸ h))⟩

end Sys2Proof.Machine.Laws

namespace Sys2Proof.Machine.Laws

open Sys2Proof Sys2Proof.Machine

/-! ### The shared operations as courses of elementary changes -/

theorem Move.present (s : State) (rs : List MemRequest) : Move s (s.present rs) := .waiting (List.Sublist.refl _)

theorem Move.setEntry (s : State) (x : Entry) : Move s (s.setEntry x) := .entries (.inl (by simp))

theorem Move.freeEntry (s : State) (x : Entry) : Move s (s.freeEntry x) := .entries (.inl (List.length_filter_le _ _))

/-- A change of one queue that brings no pop entry, waiter or notice write. -/
theorem Move.shrinks {s : State} {q : QueueId} {x : Queue} (hp : x.popEntries.length ≤ (s.queue q).popEntries.length)
    (hs : slotsOf x ≤ slotsOf (s.queue q)) (hn : x.notices.length ≤ (s.queue q).notices.length) :
    Move s (s.setQueue q x) := .queue (.inl hp) (.inl hs) (.inl hn)

/-- A change of one queue's context beside its lists. -/
theorem Move.modifyQueue (s : State) (q : QueueId) (f : Queue → Queue) (hp : (f (s.queue q)).popEntries = (s.queue q).popEntries)
    (hw : (f (s.queue q)).pushWaiters = (s.queue q).pushWaiters) (hv : (f (s.queue q)).popWaiters = (s.queue q).popWaiters)
    (hn : (f (s.queue q)).notices = (s.queue q).notices) : Move s (s.modifyQueue q f) :=
  .shrinks (by rw [hp]) (by rw [slotsOf, hw, hv, slotsOf]) (by rw [hn])

theorem Move.setTransaction (s : State) (x : Transaction) : Move s (s.setTransaction x) := by
  have hkeys : keys (s.setTransaction x).sys.tracker = keys s.sys.tracker := by
    simp only [keys, State.setTransaction, withSys_sys, List.map_map]
    refine List.map_congr_left (fun z _ => ?_)
    simp only [Function.comp_apply]
    split
    next hz =>
      obtain ⟨hr, ht⟩ := (named_iff _ _ _).1 hz
      rw [hr, ht]
    next => rfl
  exact .sys (hkeys ▸ List.Sublist.refl _)

theorem Move.sendResponse (s : State) (x : Transaction) (a : Answer) : Move s (s.sendResponse x a) :=
  .sys (List.filter_sublist.map _)

theorem Moves.answer (s : State) (r : Requester) (t : Tag) (st : Status) (reason : Option Reason) (data : List Word) :
    Moves s (s.answer r t st reason data) := by
  unfold State.answer
  split
  · exact .refl _
  · dsimp only
    split
    · exact .refl _
    · split
      · exact (Move.sendResponse _ _ _).moves
      · exact (Move.setTransaction _ _).moves

theorem Moves.decline (s : State) (r : Requester) (t : Tag) (e : LogEntry) : Moves s (s.decline r t e) :=
  Move.logs.moves.trans (.answer _ _ _ _ _ _)

theorem Moves.declineQueue (s : State) (q : QueueId) (r : Requester) (t : Tag) (reason : Reason) :
    Moves s (s.declineQueue q r t reason) := .decline _ _ _ _

theorem Moves.retry (s : State) (q : QueueId) (r : Requester) (t : Tag) (reason : Reason) :
    Moves s (s.retry q r t reason) := by
  unfold State.retry
  dsimp only
  split
  · exact Move.logs.moves.trans (.answer _ _ _ _ _ _)
  · exact .answer _ _ _ _ _ _

theorem Moves.setBeatMode (s : State) (r : Requester) (t : Tag) (m : BeatMode) : Moves s (s.setBeatMode r t m) := by
  unfold State.setBeatMode
  split
  · exact .refl _
  · exact (Move.setTransaction _ _).moves

/-- A waiter list is replaced by one that is no longer. -/
theorem Move.setWaiters (s : State) (q : QueueId) (side : Side) (ws : List Waiter)
    (h : ws.length ≤ ((s.queue q).waiters side).length) : Move s (s.setWaiters q side ws) := by
  cases side with
  | push => exact .shrinks le_rfl (Nat.add_le_add_right h _) le_rfl
  | pop => exact .shrinks le_rfl (Nat.add_le_add_left h _) le_rfl

/-! ### Grants, joins and releases -/

theorem entryFree_iff (s : State) : s.entryFree = true ↔ s.reservations.length < 48 := by simp [State.entryFree]

theorem Moves.grantPush {s : State} (q : QueueId) (r : Requester) (t : Tag) (L : BurstLength)
    (h : s.reservations.length < 48) : Moves s (s.grantPush q r t L) := by
  have hentry : Move s (s.withReservations (s.reservations ++ [newEntry q (s.queue q) r t L])) :=
    .entries (.inr (by simp only [List.length_append, List.length_singleton]; omega))
  refine (hentry.moves.tail (.modifyQueue _ q (fun x =>
    { x with reserve := advance x.reserve (recordWords L), nextSequence := x.nextSequence + 1 }) ?_ ?_ ?_ ?_)).trans
      (.setBeatMode _ _ _ _) <;> rfl

/-- The re-arm cause touches the notice alone (R113). -/
theorem rearmBelow_lists (x : Queue) : x.rearmBelow.popEntries = x.popEntries ∧ x.rearmBelow.pushWaiters = x.pushWaiters ∧
    x.rearmBelow.popWaiters = x.popWaiters ∧ x.rearmBelow.notices = x.notices := by
  unfold Queue.rearmBelow
  split <;> exact ⟨rfl, rfl, rfl, rfl⟩

theorem Moves.grantPop {s : State} (q : QueueId) (r : Requester) (t : Tag) (L : BurstLength)
    (h : (s.queue q).popEntries.length < 16) : Moves s (s.grantPop q r t L) := by
  refine (Move.moves (.queue (.inr ?_) (.inl ?_) (.inl ?_))).tail (.present _ _)
  · rw [(rearmBelow_lists _).1, List.length_append, List.length_singleton]
    omega
  · rw [slotsOf, (rearmBelow_lists _).2.1, (rearmBelow_lists _).2.2.1, slotsOf]
  · rw [(rearmBelow_lists _).2.2.2]

theorem Moves.join (s : State) (q : QueueId) (side : Side) (r : Requester) (t : Tag) (L : BurstLength) :
    Moves s (s.join q side r t L) := by
  unfold State.join
  split
  next h =>
    refine Moves.tail (Move.moves ?_) .hold
    have hslots : ∀ w : Waiter, slotsOf ((s.queue q).withWaiters side ((s.queue q).waiters side ++ [w])) =
        slotsOf (s.queue q) + 1 := by
      intro w
      cases side <;> simp only [slotsOf, Queue.withWaiters, Queue.waiters, List.length_append, List.length_singleton] <;>
        omega
    refine .queue (.inl ?_) (.inr ⟨h, (hslots _).le⟩) (.inl ?_) <;> cases side <;> exact le_rfl
  next => exact .retry _ _ _ _ _

theorem Moves.declineWaiters (q : QueueId) (reason : Reason) (ws : List Waiter) (s : State) :
    Moves s (s.declineWaiters q reason ws) := by
  induction ws generalizing s with
  | nil => exact .refl _
  | cons w ws ih => exact (Moves.declineQueue s q w.requester w.tag reason).trans (ih _)

theorem Moves.releaseList (s : State) (q : QueueId) (side : Side) (reason : Reason) :
    Moves s (s.releaseList q side reason) :=
  (Move.setWaiters s q side [] (Nat.zero_le _)).moves.trans (.declineWaiters _ _ _ _)

theorem Moves.releaseAll (s : State) (q : QueueId) (reason : Reason) : Moves s (s.releaseAll q reason) :=
  (Moves.releaseList _ _ _ _).trans (.releaseList _ _ _ _)

/-! ### Re-examination, notices, faults and arrivals -/

theorem pushFits_iff (s : State) (q : QueueId) (L : BurstLength) :
    s.pushFits q L = true ↔ recordWords L ≤ (s.queue q).free ∧ s.reservations.length < 48 := by
  simp [State.pushFits, entryFree_iff]

theorem popFits_iff (s : State) (q : QueueId) (L : BurstLength) :
    s.popFits q L = true ↔ L.val ≤ (s.queue q).visible ∧ (s.queue q).popEntries.length < 16 := by
  simp [State.popFits]

theorem Moves.reexaminePushFrom (q : QueueId) (ws : List Waiter) (s : State) (h : (s.queue q).pushWaiters = ws) :
    Moves s (s.reexaminePushFrom q ws) := by
  induction ws generalizing s with
  | nil => exact .refl _
  | cons w ws ih =>
    unfold State.reexaminePushFrom
    split
    next hfit =>
      have hset : Moves s (s.setWaiters q .push ws) := (Move.setWaiters _ _ _ _ (by simp [Queue.waiters, h])).moves
      refine (hset.trans (.grantPush _ _ _ _ ((pushFits_iff _ _ _).1 hfit).2)).trans (ih _ ?_)
      rw [grantPush_queue_same, setWaiters_queue_same]
      rfl
    next => exact .refl _

theorem Moves.reexaminePush (s : State) (q : QueueId) : Moves s (s.reexaminePush q) := .reexaminePushFrom q _ s rfl

theorem grantPop_popWaiters (s : State) (q : QueueId) (r : Requester) (t : Tag) (L : BurstLength) :
    ((s.grantPop q r t L).queue q).popWaiters = (s.queue q).popWaiters := by
  rw [State.grantPop, present_queue, setQueue_queue_same, (rearmBelow_lists _).2.2.1]

theorem Moves.reexaminePopFrom (q : QueueId) (ws : List Waiter) (s : State) (h : (s.queue q).popWaiters = ws) :
    Moves s (s.reexaminePopFrom q ws) := by
  induction ws generalizing s with
  | nil => exact .refl _
  | cons w ws ih =>
    have hset : Moves s (s.setWaiters q .pop ws) := (Move.setWaiters _ _ _ _ (by simp [Queue.waiters, h])).moves
    have hpop : ((s.setWaiters q .pop ws).queue q).popWaiters = ws := by
      rw [setWaiters_queue_same]
      rfl
    have hlen : ((s.setWaiters q .pop ws).queue q).popEntries = (s.queue q).popEntries := by
      rw [setWaiters_queue_same]
      rfl
    unfold State.reexaminePopFrom
    split
    next hfit =>
      refine (hset.trans (.grantPop _ _ _ _ (hlen ▸ ((popFits_iff _ _ _).1 hfit).2))).trans (ih _ ?_)
      rw [grantPop_popWaiters, hpop]
    next =>
      split
      · refine (hset.trans (.declineQueue _ _ _ _ _)).trans (ih _ ?_)
        rw [(answersOnly_declineQueue _ _ _ _ _).queue, hpop]
      · exact .refl _

theorem reexaminePop_active {s : State} {q : QueueId} (h : (s.queue q).state = .running ∨ (s.queue q).state = .draining) :
    s.reexaminePop q = s.reexaminePopFrom q (s.queue q).popWaiters := by
  unfold State.reexaminePop
  obtain h | h := h <;> rw [h]

theorem reexaminePop_inactive {s : State} {q : QueueId}
    (h : ¬((s.queue q).state = .running ∨ (s.queue q).state = .draining)) : s.reexaminePop q = s := by
  unfold State.reexaminePop
  cases hs : (s.queue q).state <;> simp_all

theorem Moves.reexaminePop (s : State) (q : QueueId) : Moves s (s.reexaminePop q) := by
  by_cases h : (s.queue q).state = .running ∨ (s.queue q).state = .draining
  · rw [reexaminePop_active h]
    exact .reexaminePopFrom q _ s rfl
  · rw [reexaminePop_inactive h]

theorem Moves.reexamine (s : State) (q : QueueId) (side : Side) : Moves s (s.reexamine q side) := by
  cases side with
  | push => exact .reexaminePush s q
  | pop => exact .reexaminePop s q

theorem noticeFires_iff (x : Queue) : x.noticeFires = true ↔
    x.noticeArmed = true ∧ x.config.threshold ≠ 0 ∧ x.config.threshold ≤ x.visible ∧ x.notices.length < 2 := by
  simp [Queue.noticeFires, and_assoc]

theorem Moves.noticeCheck (s : State) (q : QueueId) : Moves s (s.noticeCheck q) := by
  obtain ⟨-, h⟩ | ⟨hf, h⟩ := noticeCheck_cases s q
  · rw [h]
  · have hlen := ((noticeFires_iff _).1 hf).2.2.2
    rw [h]
    refine Moves.tail (Move.moves (.queue (.inl ?_) (.inl ?_) (.inr ?_))) (.present _ _)
    · exact le_rfl
    · exact le_rfl
    · simp only [List.length_append, List.length_singleton]
      omega

theorem Moves.faultTrigger (s : State) (q : QueueId) (reason : FaultReason) : Moves s (s.faultTrigger q reason) := by
  obtain ⟨-, h⟩ | ⟨-, h⟩ := faultTrigger_cases s q reason
  · rw [h]
    refine Moves.trans (Moves.tail (Move.moves (.modifyQueue s q _ ?_ ?_ ?_ ?_)) .logs) (.releaseAll _ _ _) <;> rfl
  · rw [h]

theorem Moves.testDrain (s : State) (q : QueueId) : Moves s (s.testDrain q) := by
  unfold State.testDrain
  split
  · exact (Move.modifyQueue s q _ rfl rfl rfl rfl).moves
  · exact .refl _

theorem Moves.testStop (s : State) (q : QueueId) : Moves s (s.testStop q) := by
  unfold State.testStop
  split
  · exact (Move.modifyQueue s q _ rfl rfl rfl rfl).moves
  · exact .refl _

/-! ### Decisions and takings -/

theorem Moves.decidePush (s : State) (q : QueueId) (r : Requester) (t : Tag) (L : BurstLength) :
    Moves s (s.decidePush q r t L) := by
  have hfull : Moves s (s.applyFullPolicy q r t L) := by
    unfold State.applyFullPolicy
    split
    · exact .join _ _ _ _ _ _
    · exact .retry _ _ _ _ _
    · exact (Moves.declineQueue _ _ _ _ _).trans (.faultTrigger _ _ _)
  unfold State.decidePush
  dsimp only
  split
  · exact .declineQueue _ _ _ _ _
  · split
    · exact .declineQueue _ _ _ _ _
    · exact .declineQueue _ _ _ _ _
    · exact .declineQueue _ _ _ _ _
    · exact .declineQueue _ _ _ _ _
    · split
      · exact .join _ _ _ _ _ _
      · split
        · exact hfull
        · split
          next h => exact .grantPush _ _ _ _ ((entryFree_iff s).1 h)
          next => exact .join _ _ _ _ _ _

theorem Moves.decidePopActive (s : State) (q : QueueId) (r : Requester) (t : Tag) (L : BurstLength) :
    Moves s (s.decidePopActive q r t L) := by
  have hempty : Moves s (s.applyEmptyPolicy q r t L) := by
    unfold State.applyEmptyPolicy
    split
    · exact .join _ _ _ _ _ _
    · exact .retry _ _ _ _ _
    · exact (Moves.declineQueue _ _ _ _ _).trans (.faultTrigger _ _ _)
  unfold State.decidePopActive
  dsimp only
  split
  · exact .join _ _ _ _ _ _
  · split
    · split
      · exact .declineQueue _ _ _ _ _
      · exact hempty
    · split
      next h => exact .grantPop _ _ _ _ h
      next => exact .join _ _ _ _ _ _

theorem Moves.decidePop (s : State) (q : QueueId) (r : Requester) (t : Tag) (L : BurstLength) :
    Moves s (s.decidePop q r t L) := by
  unfold State.decidePop
  dsimp only
  split
  · exact .declineQueue _ _ _ _ _
  · split
    · exact .declineQueue _ _ _ _ _
    · exact .declineQueue _ _ _ _ _
    · exact .declineQueue _ _ _ _ _
    · exact .decidePopActive _ _ _ _ _
    · exact .decidePopActive _ _ _ _ _

theorem Moves.carry (s : State) (q : Request) (d : Decoded) : Moves s (s.carry q d) := by
  unfold State.carry
  split
  · exact .decline _ _ _ _
  · exact .decline _ _ _ _
  · exact .decidePush _ _ _ _ _
  · exact .decidePop _ _ _ _ _
  · split
    · exact (Move.present _ _).moves
    · exact .refl _

theorem Moves.take {s : State} {q : Request} (h : s.canTake q = true) : Moves s (s.take q) :=
  (Move.moves (.takes (x := newTransaction q (s.outcome q)) h)).trans (.carry _ _ _)

theorem Moves.takeFrom (qs : List Request) (s : State) : Moves s (s.takeFrom qs) := by
  induction qs generalizing s with
  | nil => exact .refl _
  | cons q qs ih =>
    unfold State.takeFrom
    split
    next h =>
      have hsys : Moves s (s.withSys { s.sys with arrivals := qs }) := (Move.moves (.sys (List.Sublist.refl _)))
      exact (hsys.trans (.take h)).trans (ih _)
    next => exact .refl _

theorem Moves.takePresented (s : State) : Moves s s.takePresented := .takeFrom _ s

theorem Moves.finish (s : State) : Moves s s.finish := by
  unfold State.finish
  split
  · have hlog : Move s (s.withLog ⟨[], 0⟩) := .logTaken (Nat.zero_le _)
    exact (hlog.moves.tail .link).trans (.takePresented _)
  · split
    · exact .refl _
    · exact .takePresented s

/-! ### The arbiter and commit -/

theorem arbitrateFor_succ (s : State) (n : Nat) :
    s.arbitrateFor (n + 1) = s.earliestEligible.elim s (fun c => (s.grantHead c.1 c.2).arbitrateFor n) := by
  show (match s.earliestEligible with | none => s | some c => (s.grantHead c.1 c.2).arbitrateFor n) = _
  cases s.earliestEligible <;> rfl

/-- The arbiter with no eligible head. -/
theorem arbitrateFor_of_none {s : State} (h : s.earliestEligible = none) (n : Nat) : s.arbitrateFor n = s := by
  cases n with
  | zero => rfl
  | succ n => rw [arbitrateFor_succ, h, Option.elim_none]

/-- The arbiter with an eligible head and an entry free. -/
theorem arbitrateFor_of_some {s : State} {q : QueueId} {w : Waiter} (h : s.earliestEligible = some (q, w)) (n : Nat) :
    s.arbitrateFor (n + 1) = (s.grantHead q w).arbitrateFor n := by
  rw [arbitrateFor_succ, h, Option.elim_some]

theorem grantHead_reservations_length (s : State) (q : QueueId) (w : Waiter) :
    (s.grantHead q w).reservations.length = s.reservations.length + 1 := by
  rw [State.grantHead, grantPush_reservations, setWaiters_reservations, List.length_append, List.length_singleton]

theorem Moves.grantHead {s : State} (q : QueueId) (w : Waiter) (h : s.reservations.length < 48) :
    Moves s (s.grantHead q w) :=
  (Move.setWaiters s q .push (s.queue q).pushWaiters.tail (by simp [Queue.waiters])).moves.trans (.grantPush _ _ _ _ h)

theorem Moves.arbitrateFor (n : Nat) (s : State) (h : s.reservations.length + n ≤ 48) : Moves s (s.arbitrateFor n) := by
  induction n generalizing s with
  | zero => exact .refl _
  | succ n ih =>
    cases he : s.earliestEligible with
    | none => rw [arbitrateFor_of_none he]
    | some c =>
      rw [arbitrateFor_of_some he]
      exact (Moves.grantHead _ _ (by omega)).trans (ih _ (by rw [grantHead_reservations_length]; omega))

theorem arbitrate_of_full {s : State} (h : 48 ≤ s.reservations.length) : s.arbitrate = s := by
  rw [State.arbitrate, Nat.sub_eq_zero_of_le h]
  rfl

theorem Moves.arbitrate (s : State) : Moves s s.arbitrate := by
  by_cases h : 48 ≤ s.reservations.length
  · rw [arbitrate_of_full h]
  · exact .arbitrateFor _ s (by unfold Config.reservationEntries; omega)

theorem Moves.entryFreed (s : State) : Moves s s.entryFreed := by
  have huse : Moves s s.useFree := Move.useFree.moves
  obtain ⟨-, h⟩ | ⟨-, h | h | ⟨-, h⟩ | ⟨ha, h⟩⟩ := entryFreed_cases s
  · rw [h]
  · rw [h]
    exact .arbitrate s
  · rw [h]
    exact huse.trans (.arbitrate _)
  · rw [h]
    exact (huse.trans (.takePresented _)).trans (.arbitrate _)
  · rw [h]
    exact huse.tail (.putsOff ha)

theorem Moves.passClosed (q : QueueId) (n : Nat) (s : State) : Moves s (s.passClosed q n) := by
  induction n generalizing s with
  | zero => exact .refl _
  | succ n ih =>
    unfold State.passClosed
    split
    · exact .refl _
    · split
      · exact ((Move.freeEntry s _).moves.tail (.modifyQueue _ q _ rfl rfl rfl rfl)).trans (ih _)
      · exact .refl _

theorem Moves.commitAttempt (s : State) (q : QueueId) : Moves s (s.commitAttempt q) := by
  unfold State.commitAttempt
  split
  · exact ((((Moves.passClosed q _ s).trans (.noticeCheck _ _)).trans (.reexaminePop _ _)).trans (.testDrain _ _)).trans
      (.entryFreed _)
  · exact .refl _

/-! ### Resolution, beats and completions -/

theorem Moves.lastEntryGone (s : State) (q : QueueId) : Moves s (s.lastEntryGone q) := by
  unfold State.lastEntryGone
  split
  · exact (Moves.reexaminePop _ _).trans (.testDrain _ _)
  · exact .refl _

theorem Moves.rewindGrants (s : State) (q : QueueId) : Moves s (s.rewindGrants q) := by
  have huse : Moves s s.useFree := Move.useFree.moves
  unfold State.rewindGrants
  split
  · exact .refl _
  · split
    · exact (huse.trans (.entryFreed _)).trans (.reexaminePush _ _)
    · exact (huse.trans (.reexaminePush _ _)).trans (.entryFreed _)

theorem Moves.rewind (s : State) (e : Entry) : Moves s (s.rewind e) := by
  have hback : Moves s ((s.freeEntry e).modifyQueue e.queue (fun x => { x with reserve := e.start, nextSequence := e.sequence })) :=
    (Move.freeEntry s e).moves.tail (.modifyQueue _ _ _ rfl rfl rfl rfl)
  exact ((hback.trans (.rewindGrants _ _)).trans (.commitAttempt _ _)).trans (.lastEntryGone _ _)

theorem Moves.issueFiller (s : State) (e : Entry) : Moves s (s.issueFiller e) :=
  (Move.setEntry s _).moves.tail (.present _ _)

theorem Moves.resolve (s : State) (e : Entry) : Moves s (s.resolve e) := by
  have hdecline := Moves.decline s e.requester e.tag e.abandonedLog
  unfold State.resolve
  dsimp only
  split
  · exact ((hdecline.tail (.freeEntry _ _)).trans (.entryFreed _)).trans (.testStop _ _)
  · split
    · exact hdecline.trans (.rewind _ _)
    · exact hdecline.trans (.issueFiller _ _)

theorem Moves.settleEntry (s : State) (e : Entry) : Moves s (s.settleEntry e) := by
  unfold State.settleEntry
  split
  · exact (Move.setEntry s e).moves.trans (.resolve _ _)
  · exact (Move.setEntry s e).moves

theorem Moves.handBeat (s : State) (e : Entry) (b : Beat) : Moves s (s.handBeat e b) := by
  unfold State.handBeat
  split
  · split
    · exact .settleEntry _ _
    · dsimp only
      split
      · exact (Move.setEntry s _).moves.tail (.present _ _)
      · exact (Move.setEntry s _).moves
  · exact .settleEntry _ _
  · exact .refl _

theorem Moves.afterPayload (s : State) (e : Entry) : Moves s (s.afterPayload e) := by
  unfold State.afterPayload
  split
  · split
    · exact (Move.setEntry s _).moves.tail (.present _ _)
    · exact .settleEntry _ _
  · exact (Move.setEntry s e).moves

theorem Moves.payloadCompletes (s : State) (e : Entry) (status : MemStatus) : Moves s (s.payloadCompletes e status) := by
  unfold State.payloadCompletes
  dsimp only
  split
  · exact .afterPayload _ _
  · exact .afterPayload _ _
  · exact .settleEntry _ _
  · exact .refl _

theorem Moves.answerStored (s : State) (e : Entry) : Moves s (s.answerStored e) := by
  unfold State.answerStored
  split
  · exact .answer _ _ _ _ _ _
  · exact .refl _

theorem Moves.declineHeader (s : State) (e : Entry) : Moves s (s.declineHeader e) := by
  unfold State.declineHeader
  split
  · exact .decline _ _ _ _
  · exact Move.logs.moves

theorem Moves.headerCompletes (s : State) (e : Entry) (status : MemStatus) : Moves s (s.headerCompletes e status) := by
  unfold State.headerCompletes
  split
  · unfold State.headerOk
    split
    · exact (((Moves.answerStored s e).tail (.freeEntry _ _)).trans (.entryFreed _)).trans (.testStop _ _)
    · exact ((Move.setEntry s _).moves.trans (.answerStored _ _)).trans (.commitAttempt _ _)
  · unfold State.headerError
    split
    · exact (((Moves.declineHeader s e).tail (.freeEntry _ _)).trans (.entryFreed _)).trans (.testStop _ _)
    · exact ((Move.setEntry s _).moves.trans (.declineHeader _ _)).trans (.faultTrigger _ _ _)
  · exact .refl _

end Sys2Proof.Machine.Laws

namespace Sys2Proof.Machine.Laws

open Sys2Proof Sys2Proof.Machine

/-! ### The memory-side port -/

theorem freeNumber_some {m : MemoryPort} {n k : Nat} (h : m.freeNumber n = some k) : k < 96 ∧ m.holds k = false := by
  have hmem := List.mem_of_find?_eq_some h
  have hfree := List.find?_some h
  simp only [List.mem_map] at hmem
  obtain ⟨i, -, rfl⟩ := hmem
  exact ⟨Nat.mod_lt _ (by decide), by simpa using hfree⟩

theorem Moves.passage (s : State) (n : Nat) : Moves s (s.passage n) := by
  unfold State.passage
  split
  next hlt =>
    split
    next r k _ hk =>
      obtain ⟨hk96, hfree⟩ := freeNumber_some hk
      exact Move.moves (.passes (p := ⟨k, r⟩) rfl hlt hk96 hfree)
    next => exact .refl _
  next => exact .refl _

theorem Moves.removePop (s : State) (q : QueueId) (e : PopEntry) : Moves s (s.removePop q e) := by
  have hremove : Moves s (s.modifyQueue q (fun x => x.removePop e)) :=
    Move.moves (.shrinks (List.length_filter_le _ _) le_rfl le_rfl)
  have hpush : Moves s (if ((s.modifyQueue q (fun x => x.removePop e)).queue q).release = (s.queue q).release then
      s.modifyQueue q (fun x => x.removePop e) else (s.modifyQueue q (fun x => x.removePop e)).reexaminePush q) := by
    split
    · exact hremove
    · exact hremove.trans (.reexaminePush _ _)
  exact ((hpush.trans (.reexaminePop _ _)).trans (.testDrain _ _)).trans (.testStop _ _)

theorem Moves.answerPop (s : State) (q : QueueId) (e : PopEntry) : Moves s (s.answerPop q e) := by
  unfold State.answerPop
  split
  · exact ((Moves.decline _ _ _ _).trans (.faultTrigger _ _ _)).trans (.removePop _ _ _)
  · exact (Moves.answer _ _ _ _ _ _).trans (.removePop _ _ _)

theorem Moves.afterRead (s : State) (q : QueueId) (e : PopEntry) : Moves s (s.afterRead q e) := by
  have hset : Moves s (s.setPopEntry q e) := Move.moves (.shrinks (by simp) le_rfl le_rfl)
  unfold State.afterRead
  split
  · exact hset.trans (.answerPop _ _ _)
  · exact hset

theorem Moves.noteMissing (s : State) (words : Nat) (data : List Word) : Moves s (s.noteMissing words data) := by
  unfold State.noteMissing
  split
  · exact Move.useFree.moves
  · exact .refl _

theorem Moves.readCompletes (s : State) (q : QueueId) (e : PopEntry) (first words : Nat) (status : MemStatus)
    (data : List Word) : Moves s (s.readCompletes q e first words status data) := by
  cases status with
  | ok => exact (Moves.noteMissing _ _ _).trans (.afterRead _ _ _)
  | error => exact .afterRead _ _ _

theorem Moves.passThroughCompletes (s : State) (x : Transaction) (words : Nat) (status : MemStatus) (data : List Word) :
    Moves s (s.passThroughCompletes x words status data) := by
  unfold State.passThroughCompletes
  split
  · exact .decline _ _ _ _
  · split
    · exact .answer _ _ _ _ _ _
    · exact (Moves.noteMissing _ _ _).trans (.answer _ _ _ _ _ _)

theorem Moves.noticeCompletes (s : State) (q : QueueId) (r : NoticeRecord) (status : MemStatus) :
    Moves s (s.noticeCompletes q r status) := by
  have herase : Moves s (s.modifyQueue q (fun x => { x with notices := x.notices.erase r })) :=
    Move.moves (.shrinks le_rfl le_rfl List.length_erase_le)
  cases status with
  | ok => exact herase.trans (.noticeCheck _ _)
  | error => exact (herase.tail .logs).trans (.noticeCheck _ _)

theorem Moves.route (s : State) (r : MemRequest) (status : MemStatus) (data : List Word) :
    Moves s (s.route r status data) := by
  unfold State.route
  split
  · split
    · exact .refl _
    · exact .headerCompletes _ _ _
  · split
    · exact .refl _
    · exact .payloadCompletes _ _ _
  · split
    · exact .refl _
    · exact .readCompletes _ _ _ _ _ _ _
  · split
    · exact .refl _
    · exact .passThroughCompletes _ _ _ _ _
  · exact .noticeCompletes _ _ _ _

theorem Moves.complete (s : State) (n : Nat) (status : MemStatus) (data : List Word) :
    Moves s (s.complete n status data) := by
  have hnumber : Moves s (s.releaseNumber n) := Move.moves (.waiting List.filter_sublist)
  unfold State.complete
  split
  · exact .refl _
  · exact (hnumber.trans (.route _ _ _ _)).trans (.finish _)

/-! ### Expiries and beats -/

theorem Moves.expireHeld (s : State) (h : HeldRequest) : Moves s (s.expireHeld h) := by
  have hleave : Moves s (s.leave h) := (Move.setWaiters _ _ _ _ (List.length_filter_le _ _)).moves.tail .hold
  unfold State.expireHeld
  dsimp only
  split
  · exact (hleave.trans (.retry _ _ _ _ _)).trans (.reexamine _ _ _)
  · exact hleave.trans (.retry _ _ _ _ _)

theorem Moves.expire (s : State) (r : Requester) (t : Tag) : Moves s (s.expire r t) := by
  obtain h | ⟨h, -, -, he⟩ := expire_cases s r t
  · rw [h]
  · rw [he]
    exact (Moves.expireHeld _ _).trans (.finish _)

theorem Moves.offerBeat (s : State) (r : Requester) (t : Tag) (b : Beat) : Moves s (s.offerBeat r t b) := by
  have hset : ∀ x, Moves s (s.setTransaction x) := fun x => (Move.setTransaction s x).moves
  have hgather : ∀ x, Moves s (s.gatherBeat x b) := by
    intro x
    unfold State.gatherBeat
    dsimp only
    split
    · split
      · exact (hset _).tail (.present _ _)
      · exact hset _
    · exact hset _
  have hdrop : ∀ x, Moves s (s.dropBeat x) := by
    intro x
    unfold State.dropBeat
    split
    · split
      · exact (Move.sendResponse _ _ _).moves
      · exact hset _
    · exact hset _
  have hhand : ∀ x, Moves s (s.handOver x b) := by
    intro x
    unfold State.handOver
    split
    · exact hset _
    · exact (hset _).trans (.handBeat _ _ _)
  unfold State.offerBeat
  split
  · exact .refl _
  · unfold State.takeBeat
    split
    · dsimp only
      split
      · exact .refl _
      · exact .refl _
      · exact hgather _
      · exact hhand _
      · exact hdrop _
    · exact .refl _

/-! ### Queue actions -/

theorem Moves.drainQueue (s : State) (q : QueueId) : Moves s (s.drainQueue q) := by
  have hstate : Moves s (s.modifyQueue q (fun x => { x with state := .draining })) :=
    Move.moves (.modifyQueue _ _ _ rfl rfl rfl rfl)
  unfold State.drainQueue
  dsimp only
  refine Moves.trans ?_ (.testDrain _ _)
  split
  · exact (hstate.trans (.releaseList _ _ _ _)).trans (.reexaminePop _ _)
  · exact hstate.trans (.releaseList _ _ _ _)

theorem Moves.resolveStopped (es : List Entry) (s : State) : Moves s (es.foldl State.resolveStopped s) := by
  induction es generalizing s with
  | nil => exact .refl _
  | cons e es ih => exact ((Moves.decline s _ _ _).tail (.freeEntry _ _)).trans (ih _)

theorem stoppedEntries_length_le (s : State) (q : QueueId) : (s.stoppedEntries q).length ≤ s.reservations.length := by
  rw [State.stoppedEntries, List.length_map]
  exact List.length_filter_le _ _

theorem Moves.stopActs (s : State) (q : QueueId) : Moves s (s.stopActs q) := by
  have hstate : Moves s (s.modifyQueue q Queue.stopping) := Move.moves (.modifyQueue _ _ _ rfl rfl rfl rfl)
  have hentries : ∀ u : State, Moves u (u.stopEntries q) := fun u =>
    (Move.moves (.entries (.inl (stoppedEntries_length_le u q)))).tail (.waiting (List.Sublist.refl _))
  exact ((hstate.trans (.releaseAll _ _ _)).trans (hentries _)).trans (.resolveStopped _ _)

theorem Moves.arbitrateIfFreed (s t : State) : Moves t (s.arbitrateIfFreed t) := by
  obtain ⟨-, h⟩ | ⟨-, h⟩ := arbitrateIfFreed_cases s t
  · rw [h]
    exact .entryFreed _
  · rw [h]

theorem Moves.stopQueue (s : State) (q : QueueId) : Moves s (s.stopQueue q) :=
  ((Moves.stopActs s q).trans (.arbitrateIfFreed _ _)).trans (.testStop _ _)

theorem Moves.flushQueue (s : State) (q : QueueId) : Moves s (s.flushQueue q) := by
  have hstate : Moves s (s.modifyQueue q Queue.flushed) := Move.moves (.modifyQueue _ _ _ rfl rfl rfl rfl)
  unfold State.flushQueue
  dsimp only
  refine Moves.trans ?_ (.lastEntryGone _ _)
  split
  · exact hstate.trans (.reexaminePush _ _)
  · exact hstate

theorem Moves.reissueFailed (es : List Entry) (s : State) : Moves s (es.foldl State.issueFiller s) := by
  induction es generalizing s with
  | nil => exact .refl _
  | cons e es ih => exact (Moves.issueFiller s e).trans (ih _)

theorem Moves.clearFaultQueue (s : State) (q : QueueId) : Moves s (s.clearFaultQueue q) := by
  have hstate : Moves s (s.modifyQueue q Queue.cleared) := Move.moves (.modifyQueue _ _ _ rfl rfl rfl rfl)
  exact (((hstate.trans (.reissueFailed _ _)).trans (.commitAttempt _ _)).trans (.noticeCheck _ _)).trans (.testDrain _ _)

theorem Moves.act (s : State) (q : QueueId) (a : QueueAction) : Moves s (s.act q a).state := by
  cases a with
  | start =>
    unfold State.act State.actStart
    dsimp only
    split
    · split
      · exact .refl _
      · exact Move.moves (.modifyQueue _ _ _ rfl rfl rfl rfl)
    · exact .refl _
  | drain =>
    unfold State.act State.actDrain
    dsimp only
    split
    · exact .drainQueue _ _
    · exact .refl _
    · exact .refl _
  | stop =>
    unfold State.act State.actStop
    dsimp only
    split
    · exact .refl _
    · exact .refl _
    · exact .stopQueue _ _
  | flush =>
    unfold State.act State.actFlush
    dsimp only
    split
    · exact .refl _
    · exact .refl _
    · exact .flushQueue _ _
  | clearFault =>
    unfold State.act State.actClearFault
    dsimp only
    split
    · exact .clearFaultQueue _ _
    · exact .refl _
  | armNotice =>
    unfold State.act State.actArmNotice
    dsimp only
    split
    · exact .refl _
    · exact (Move.moves (.modifyQueue _ _ _ rfl rfl rfl rfl)).trans (.noticeCheck _ _)

theorem Moves.queueCommandEffect (s : State) (payload : List Byte) : Moves s (queueCommandEffect s payload).state := by
  unfold Machine.queueCommandEffect
  split
  · exact .refl _
  · split
    · exact .refl _
    · exact .act _ _ _

theorem Moves.configureQueueEffect (s : State) (payload : List Byte) : Moves s (configureQueueEffect s payload).state := by
  unfold Machine.configureQueueEffect
  split
  · exact .refl _
  · split
    · exact .refl _
    · split
      · exact .refl _
      · split
        · dsimp only
          exact Move.moves (.modifyQueue _ _ _ rfl rfl rfl rfl)
        · exact .refl _

theorem Moves.softResetStops (qs : List QueueId) (s : State) : Moves s (qs.foldl State.softResetStop s) := by
  induction qs generalizing s with
  | nil => exact .refl _
  | cons q qs ih =>
    refine Moves.trans ?_ (ih _)
    obtain ⟨-, h⟩ | ⟨-, h⟩ := softResetStop_cases s q
    · rw [h]
    · rw [h]
      exact (Moves.stopActs _ _).trans (.testStop _ _)

theorem Moves.softResetEffect (s : State) (payload : List Byte) : Moves s (softResetEffect s payload).state :=
  (Move.link.moves.trans (.softResetStops _ _)).trans (.arbitrateIfFreed _ _)

/-! ### The table and log commands -/

theorem Moves.tableEffects (s : State) (payload : List Byte) : Moves s (readQueueEffect s payload).state ∧
    Moves s (readWindowEffect s payload).state ∧ Moves s (writeWindowEffect s payload).state ∧
    Moves s (writeClassEffect s payload).state := by
  refine ⟨?_, ?_, ?_, ?_⟩
  · unfold readQueueEffect
    split <;> exact .refl _
  · unfold readWindowEffect
    split <;> exact .refl _
  · unfold writeWindowEffect
    split
    · exact .refl _
    · split
      · exact .refl _
      · exact Move.windows.moves
  · unfold writeClassEffect
    split
    · exact .refl _
    · split
      · exact .refl _
      · exact Move.classes.moves

theorem Moves.logEffects (s : State) (payload : List Byte) : Moves s (readLogEffect s payload).state ∧
    Moves s (peekLogEffect s payload).state := by
  refine ⟨?_, ?_⟩
  · unfold readLogEffect
    split
    · exact .refl _
    next h => exact Move.moves (.logTaken (by simp [h]))
  · unfold peekLogEffect
    split <;> exact .refl _

theorem Moves.execute (s : State) (c : Command) (f : State → List Byte → Executed)
    (hf : ∀ payload, Moves s (f s payload).state) : Moves s (s.execute c f) := by
  unfold State.execute
  split
  · exact .refl _
  · split
    · unfold State.executeWith
      dsimp only
      split
      · exact Move.link.moves
      · exact (hf _).tail .link
    · exact .refl _

theorem Moves.executeAction (s : State) (a : QueueAction) : Moves s (s.executeAction a) := by
  unfold State.executeAction
  split
  · exact .refl _
  · split
    · exact .execute _ _ _ (fun _ => .queueCommandEffect _ _)
    · exact .refl _

/-! ### Commands and steps -/

theorem Moves.clearOutputs (s : State) : Moves s s.clearOutputs := by
  have hsent : Move s (s.withSys { s.sys with sent := [] }) := .sys (List.Sublist.refl _)
  have hhanded : Move (s.withSys { s.sys with sent := [] })
      ((s.withSys { s.sys with sent := [] }).withMem { s.mem with handed := [] }) := .waiting (List.Sublist.refl _)
  exact (hsent.moves.tail hhanded).tail .link

theorem Moves.presentRequest (s : State) (q : Request) : Moves s (s.presentRequest q) := by
  have hjoin : Move s (s.withSys { s.sys with arrivals := s.sys.arrivals ++ [q] }) := .sys (List.Sublist.refl _)
  exact hjoin.moves.trans (.takePresented _)

/-- Every command but two is a course of elementary changes: a power-on reset sets every block anew, and a TAKE_REQUEST for which
the arbiter's run was put off takes that mark away (R37). -/
theorem exec_moves {c : Instr} {s t : State} (h : exec c s = .next t) : Moves s t ∨
    (∃ p, c = .powerOnReset p ∧ t = s.powerOn p) ∨
      ∃ q, c = .takeRequest q ∧ s.arbiterDue = true ∧
        t = ((s.clearOutputs.withArbiterDue false).presentRequest q).arbitrate := by
  have hclear := Moves.clearOutputs s
  have hcomplete : ∀ n st d, .next (s.clearOutputs.complete n st d) = (.next t : Host.Outcome State Fault Refusal) →
      Moves s t := by
    rintro n st d ⟨⟩
    exact hclear.trans (.complete _ _ _ _)
  have heffect : ∀ c f, (∀ p, Moves s.clearOutputs (f s.clearOutputs p).state) →
      .next (s.clearOutputs.execute c f) = (.next t : Host.Outcome State Fault Refusal) → Moves s t := by
    rintro c f hf ⟨⟩
    exact hclear.trans (.execute _ _ _ hf)
  have hfinish : ∀ c f, (∀ p, Moves s.clearOutputs (f s.clearOutputs p).state) →
      .next (s.clearOutputs.execute c f).finish = (.next t : Host.Outcome State Fault Refusal) → Moves s t := by
    rintro c f hf ⟨⟩
    exact (hclear.trans (.execute _ _ _ hf)).trans (.finish _)
  have haction : ∀ a, .next (s.clearOutputs.executeAction a).finish = (.next t : Host.Outcome State Fault Refusal) →
      Moves s t := by
    rintro a ⟨⟩
    exact (hclear.trans (.executeAction _ _)).trans (.finish _)
  cases c with
  | takeRequest q =>
    injection h with h
    cases hd : s.arbiterDue with
    | true => exact .inr (.inr ⟨q, rfl, rfl, h ▸ presentAndArbitrate_of_due (s := s.clearOutputs) q hd⟩)
    | false =>
      rw [presentAndArbitrate_of_not_due (s := s.clearOutputs) q hd] at h
      exact .inl (h ▸ hclear.trans (.presentRequest _ _))
  | powerOnReset p =>
    injection h with h
    exact .inr (.inl ⟨p, rfl, h.symm⟩)
  | writeBeat r t' b =>
    injection h with h
    exact .inl (h ▸ (hclear.trans (.offerBeat _ _ _ _)).trans (.finish _))
  | memoryPassage n =>
    injection h with h
    exact .inl (h ▸ hclear.trans (.passage _ _))
  | waiterExpiry r t' =>
    injection h with h
    exact .inl (h ▸ hclear.trans (.expire _ _ _))
  | requestFrame bits =>
    injection h with h
    exact .inl (h ▸ hclear.tail .link)
  | fetch k =>
    injection h with h
    exact .inl (h ▸ hclear.tail .link)
  | payloadWriteOk n => exact .inl (hcomplete _ _ _ h)
  | payloadWriteError n => exact .inl (hcomplete _ _ _ h)
  | headerWriteOk n => exact .inl (hcomplete _ _ _ h)
  | headerWriteError n => exact .inl (hcomplete _ _ _ h)
  | popReadOk n d => exact .inl (hcomplete _ _ _ h)
  | popReadError n => exact .inl (hcomplete _ _ _ h)
  | passThroughReadCompletion n st d => exact .inl (hcomplete _ _ _ h)
  | passThroughWriteCompletion n st => exact .inl (hcomplete _ _ _ h)
  | noticeWriteCompletion n st => exact .inl (hcomplete _ _ _ h)
  | discardedCompletion n st d => exact .inl (hcomplete _ _ _ h)
  | readStatus => exact .inl (heffect _ _ (fun _ => .refl _) h)
  | readWindow => exact .inl (heffect _ _ (fun p => (Moves.tableEffects _ p).2.1) h)
  | writeWindow => exact .inl (heffect _ _ (fun p => (Moves.tableEffects _ p).2.2.1) h)
  | readClassMap => exact .inl (heffect _ _ (fun _ => .refl _) h)
  | writeClass => exact .inl (heffect _ _ (fun p => (Moves.tableEffects _ p).2.2.2) h)
  | readQueue => exact .inl (heffect _ _ (fun p => (Moves.tableEffects _ p).1) h)
  | configureQueue => exact .inl (heffect _ _ (fun _ => .configureQueueEffect _ _) h)
  | readLog => exact .inl (heffect _ _ (fun p => (Moves.logEffects _ p).1) h)
  | peekLog => exact .inl (heffect _ _ (fun p => (Moves.logEffects _ p).2) h)
  | start => exact .inl (haction _ h)
  | drain => exact .inl (haction _ h)
  | stop => exact .inl (haction _ h)
  | flush => exact .inl (haction _ h)
  | clearFault => exact .inl (haction _ h)
  | armNotice => exact .inl (haction _ h)
  | softReset => exact .inl (hfinish _ _ (fun _ => .softResetEffect _ _) h)
  | queueCommand => exact .inl (hfinish _ _ (fun _ => .queueCommandEffect _ _) h)

/-- An idle step is a course of elementary changes. -/
theorem idle_moves {s t : State} (h : idle s = .next t) : Moves s t := by
  have hclear := Moves.clearOutputs
  unfold idle at h
  split at h
  · injection h with h
    exact h ▸ (hclear s).tail .hold
  · injection h with h
    exact h ▸ (hclear s).trans (.expire _ _ _)
  · injection h with h
    exact h ▸ (Move.useFree.moves.trans (hclear _)).trans (.expire _ _ _)

/-! ### Capacities and names -/

theorem powerOn_capacity (s : State) (p : Bool) : CapacityLaw (s.powerOn p) ∧ LostLaw (s.powerOn p) := by
  have hqueue : ∀ q, (s.powerOn p).queue q = Queue.reset := reset_queue
  refine ⟨⟨Nat.zero_le _, Nat.zero_le _, fun q => ?_, ?_, fun q => ?_, Nat.zero_le _, Nat.zero_le _, Nat.zero_le _⟩,
    fun h => absurd h (Nat.lt_irrefl 0)⟩
  · rw [hqueue]
    exact Nat.zero_le _
  · rw [slotsInUse_eq_sum, Finset.sum_eq_zero (fun q _ => by rw [hqueue]; rfl)]
    exact Nat.zero_le _
  · rw [hqueue]
    exact Nat.zero_le _

/-- Settles O54: a command is a course of elementary changes, each of which keeps the pools within their capacities and the names
apart. -/
theorem stepKeepsTheCapacities : Obligations.StepKeepsTheCapacities := by
  have hexec : ∀ c s t, exec c s = .next t → (CapacityLaw s ∧ LostLaw s → CapacityLaw t ∧ LostLaw t) ∧
      (TrackerLaw s ∧ NumberLaw s → TrackerLaw t ∧ NumberLaw t) := by
    intro c s t h
    obtain h | ⟨p, -, rfl⟩ | ⟨q, -, -, rfl⟩ := exec_moves h
    · exact ⟨h.keeps_capacity, h.keeps_names⟩
    · exact ⟨fun _ => powerOn_capacity s p, fun _ => ⟨List.Pairwise.nil, List.nodup_nil, fun _ h => absurd h List.not_mem_nil⟩⟩
    · have hmoves : Moves (s.clearOutputs.withArbiterDue false) _ := (Moves.presentRequest _ q).trans (.arbitrate _)
      refine ⟨fun hc => hmoves.keeps_capacity ?_, fun hn => hmoves.keeps_names ?_⟩
      · obtain ⟨⟨h1, h2, h3, h4, h5, h6, h7, h8⟩, h9⟩ := hc
        exact ⟨⟨h1, h2, h3, h4, h5, h6, h7, h8⟩, h9⟩
      · exact hn
  have hstep : ∀ s t, step s = .next t → (CapacityLaw s ∧ LostLaw s → CapacityLaw t ∧ LostLaw t) ∧
      (TrackerLaw s ∧ NumberLaw s → TrackerLaw t ∧ NumberLaw t) := by
    intro s t h
    unfold step at h
    split at h
    · exact ⟨(idle_moves h).keeps_capacity, (idle_moves h).keeps_names⟩
    · obtain ⟨hc, hn⟩ := hexec _ _ _ h
      refine ⟨?_, hn⟩
      rintro ⟨⟨h1, h2, h3, h4, h5, h6, h7, h8⟩, h9⟩
      exact hc ⟨⟨h1, h2, h3, h4, h5, h6, h7, h8⟩, h9⟩
  exact ⟨fun s t hc hl h => (hstep s t h).1 ⟨hc, hl⟩, fun s t ht hn h => (hstep s t h).2 ⟨ht, hn⟩⟩

end Sys2Proof.Machine.Laws

namespace Sys2Proof.Machine.Laws

open Sys2Proof Sys2Proof.Machine

/-! ### Heads and the arbiter's choice (R36) -/

theorem noPushWaiter_iff (s : State) : s.noPushWaiter = true ↔ ∀ q, (s.queue q).pushWaiters = [] := by
  rw [State.noPushWaiter, List.all_eq_true, forall_queues_iff s (fun x => x.pushWaiters.isEmpty = true)]
  simp

theorem eligibleHead_eq_some {s : State} {q : QueueId} {w : Waiter} : s.eligibleHead q = some w ↔
    (∃ ws, (s.queue q).pushWaiters = w :: ws) ∧ recordWords w.length ≤ (s.queue q).free := by
  unfold State.eligibleHead
  split
  next h => simp [h]
  next v ws h =>
    rw [h]
    by_cases hv : recordWords v.length ≤ (s.queue q).free
    · simp only [hv, if_true, Option.some.injEq, List.cons.injEq]
      exact ⟨fun he => ⟨⟨ws, he, rfl⟩, he ▸ hv⟩, fun ⟨⟨_, he, _⟩, _⟩ => he⟩
    · simp only [hv, if_false, reduceCtorEq, List.cons.injEq, false_iff]
      rintro ⟨⟨_, rfl, _⟩, hw⟩
      exact hv hw

theorem eligibleHead_eq_none {s : State} {q : QueueId} : s.eligibleHead q = none ↔
    ∀ w ws, (s.queue q).pushWaiters = w :: ws → (s.queue q).free < recordWords w.length := by
  rw [Option.eq_none_iff_forall_ne_some]
  constructor
  · exact fun h w ws hw => Nat.lt_of_not_le (fun hf => h w (eligibleHead_eq_some.2 ⟨⟨ws, hw⟩, hf⟩))
  · intro h w he
    obtain ⟨⟨ws, hw⟩, hf⟩ := eligibleHead_eq_some.1 he
    exact absurd hf (Nat.not_le_of_lt (h w ws hw))

theorem eligibleHead_of_no_waiter {s : State} {q : QueueId} (h : (s.queue q).pushWaiters = []) :
    s.eligibleHead q = none := eligibleHead_eq_none.2 (fun _ _ hw => by rw [h] at hw; cases hw)

theorem eligibleHead_congr {s t : State} {q : QueueId} (h : t.queue q = s.queue q) :
    t.eligibleHead q = s.eligibleHead q := by simp only [State.eligibleHead, h]

/-- The earlier joined of two candidates is one of them, and joined no later than either. -/
theorem earlier_eq_some {a b : Option (QueueId × Waiter)} {c : QueueId × Waiter} (h : earlier a b = some c) :
    (a = some c ∨ b = some c) ∧ ∀ d, a = some d ∨ b = some d → c.2.joinOrder ≤ d.2.joinOrder := by
  cases a with
  | none =>
    obtain rfl : b = some c := by simpa [earlier] using h
    exact ⟨.inr rfl, by rintro d (hd | hd) <;> simp_all⟩
  | some x =>
    cases b with
    | none =>
      obtain rfl : x = c := by simpa [earlier] using h
      exact ⟨.inl rfl, by rintro d (hd | hd) <;> simp_all⟩
    | some y =>
      simp only [earlier] at h
      split at h <;> cases h
      · exact ⟨.inr rfl, by rintro d (hd | hd) <;> cases hd <;> omega⟩
      · exact ⟨.inl rfl, by rintro d (hd | hd) <;> cases hd <;> omega⟩

theorem earlier_eq_none {a b : Option (QueueId × Waiter)} : earlier a b = none ↔ a = none ∧ b = none := by
  cases a <;> cases b <;> simp only [earlier, reduceCtorEq, and_true, and_false, iff_self]
  split <;> simp

/-- The choice among the candidates of a list of queues, beside one already found. -/
theorem foldl_earlier_eq_none (f : QueueId → Option (QueueId × Waiter)) (qs : List QueueId)
    (b : Option (QueueId × Waiter)) :
    qs.foldl (fun best q => earlier best (f q)) b = none ↔ b = none ∧ ∀ q ∈ qs, f q = none := by
  induction qs generalizing b with
  | nil => simp
  | cons q qs ih => simp only [List.foldl_cons, ih, earlier_eq_none, List.forall_mem_cons, and_assoc]

theorem foldl_earlier_eq_some (f : QueueId → Option (QueueId × Waiter)) (qs : List QueueId)
    (b : Option (QueueId × Waiter)) {c : QueueId × Waiter}
    (h : qs.foldl (fun best q => earlier best (f q)) b = some c) :
    (b = some c ∨ ∃ q ∈ qs, f q = some c) ∧
      ∀ d, (b = some d ∨ ∃ q ∈ qs, f q = some d) → c.2.joinOrder ≤ d.2.joinOrder := by
  induction qs generalizing b with
  | nil =>
    obtain rfl : b = some c := h
    exact ⟨.inl rfl, by rintro d (hd | ⟨_, hq, _⟩) <;> simp_all⟩
  | cons q qs ih =>
    obtain ⟨hin, hle⟩ := ih _ h
    constructor
    · obtain he | ⟨p, hp, hc⟩ := hin
      · exact (earlier_eq_some he).1.imp id (fun hq => ⟨q, List.mem_cons_self, hq⟩)
      · exact .inr ⟨p, List.mem_cons_of_mem _ hp, hc⟩
    · intro d hd
      have hfirst : ∀ d, b = some d ∨ f q = some d → c.2.joinOrder ≤ d.2.joinOrder := by
        intro d hd
        cases he : earlier b (f q) with
        | none => obtain ⟨rfl, hq⟩ := earlier_eq_none.1 he; simp_all
        | some x => exact (hle x (.inl he)).trans ((earlier_eq_some he).2 d hd)
      obtain hb | ⟨p, hp, hc⟩ := hd
      · exact hfirst d (.inl hb)
      · obtain rfl | hp := List.mem_cons.1 hp
        · exact hfirst d (.inr hc)
        · exact hle d (.inr ⟨p, hp, hc⟩)

theorem earliestEligible_eq_none {s : State} : s.earliestEligible = none ↔ ∀ q, s.eligibleHead q = none := by
  rw [State.earliestEligible, foldl_earlier_eq_none]
  simp

/-- The arbiter's choice is an eligible head, and no eligible head joined before it. -/
theorem earliestEligible_eq_some {s : State} {q : QueueId} {w : Waiter} (h : s.earliestEligible = some (q, w)) :
    s.eligibleHead q = some w ∧ ∀ p v, s.eligibleHead p = some v → w.joinOrder ≤ v.joinOrder := by
  obtain ⟨hin, hle⟩ := foldl_earlier_eq_some _ _ _ h
  constructor
  · simp only [reduceCtorEq, false_or, Option.map_eq_some_iff] at hin
    obtain ⟨p, -, v, hv, hpv⟩ := hin
    cases hpv
    exact hv
  · exact fun p v hv => hle (p, v) (.inr ⟨p, List.mem_finRange p, by rw [hv, Option.map_some]⟩)

/-! ### Granting a head -/

theorem grantHead_queue_same (s : State) (q : QueueId) (w : Waiter) : (s.grantHead q w).queue q = { s.queue q with
    pushWaiters := (s.queue q).pushWaiters.tail
    reserve := advance (s.queue q).reserve (recordWords w.length)
    nextSequence := (s.queue q).nextSequence + 1 } := by
  rw [State.grantHead, grantPush_queue_same, setWaiters_queue_same]
  rfl

theorem grantHead_queue_other (s : State) {p q : QueueId} (w : Waiter) (h : p ≠ q) :
    (s.grantHead q w).queue p = s.queue p := by
  rw [State.grantHead, grantPush_queue_other _ _ _ _ h, setWaiters_queue, if_neg h]

/-- A grant touches the tracker, the Reservation Table and the queues: not the requests at the port, the link, the command queue
or the arbiter's mark. -/
structure GrantsOnly (s t : State) : Prop where
  arrivals   : t.sys.arrivals = s.sys.arrivals
  link       : t.link = s.link
  arbiterDue : t.arbiterDue = s.arbiterDue
  pending    : t.pending = s.pending

theorem GrantsOnly.trans {s t u : State} (h : GrantsOnly s t) (k : GrantsOnly t u) : GrantsOnly s u :=
  ⟨k.arrivals.trans h.arrivals, k.link.trans h.link, k.arbiterDue.trans h.arbiterDue, k.pending.trans h.pending⟩

theorem grantsOnly_grantPush (s : State) (q : QueueId) (r : Requester) (t : Tag) (L : BurstLength) :
    GrantsOnly s (s.grantPush q r t L) := by
  have h := answersOnly_setBeatMode
    ((s.withReservations (s.reservations ++ [newEntry q (s.queue q) r t L])).modifyQueue q (fun x =>
      { x with reserve := advance x.reserve (recordWords L), nextSequence := x.nextSequence + 1 })) r t .handing
  exact ⟨h.arrivals, h.link, h.arbiterDue, h.pending⟩

/-- What grants to waiting pushes do to a queue: waiters leave the front of its Push Waiter list, and reserve moves with the
sequence number; nothing else changes. -/
inductive PushesGranted (x : Queue) : Queue → Prop
  | mk (gone ws : List Waiter) (p : Position) (n : Sequence) : x.pushWaiters = gone ++ ws →
      PushesGranted x { x with pushWaiters := ws, reserve := p, nextSequence := n }

theorem PushesGranted.refl (x : Queue) : PushesGranted x x := .mk [] x.pushWaiters x.reserve x.nextSequence rfl

theorem PushesGranted.trans {x y z : Queue} (h : PushesGranted x y) (k : PushesGranted y z) : PushesGranted x z := by
  obtain ⟨gone, ws, p, n, hw⟩ := h
  obtain ⟨gone', ws', p', n', hw'⟩ := k
  exact .mk (gone ++ gone') ws' p' n' (by rw [hw, List.append_assoc]; exact congrArg _ hw')

theorem PushesGranted.no_waiter {x y : Queue} (h : PushesGranted x y) (k : x.pushWaiters = []) : y.pushWaiters = [] := by
  obtain ⟨gone, ws, p, n, hw⟩ := h
  exact (List.append_eq_nil_iff.1 (hw.symm.trans k)).2

/-- What a course of grants to waiting pushes does: it makes FILLING entries for queues at which pushes waited, and leaves the
requests at the port, the link, the command queue and the arbiter's mark. -/
structure Granted (s t : State) : Prop where
  only    : GrantsOnly s t
  entries : ∃ new, t.reservations = s.reservations ++ new ∧
    ∀ e ∈ new, e.state = .filling ∧ (s.queue e.queue).pushWaiters ≠ []
  queues  : ∀ q, PushesGranted (s.queue q) (t.queue q)

theorem Granted.refl (s : State) : Granted s s :=
  ⟨⟨rfl, rfl, rfl, rfl⟩, ⟨[], (List.append_nil _).symm, fun _ h => absurd h List.not_mem_nil⟩, fun q => .refl (s.queue q)⟩

theorem Granted.trans {s t u : State} (h : Granted s t) (k : Granted t u) : Granted s u := by
  obtain ⟨ho, ⟨new, hn, he⟩, hq⟩ := h
  obtain ⟨ko, ⟨new', kn, ke⟩, kq⟩ := k
  refine ⟨ho.trans ko, ⟨new ++ new', by rw [kn, hn, List.append_assoc], fun e hmem => ?_⟩, fun q => (hq q).trans (kq q)⟩
  obtain hmem | hmem := List.mem_append.1 hmem
  · exact he e hmem
  · exact ⟨(ke e hmem).1, fun hnil => (ke e hmem).2 ((hq e.queue).no_waiter hnil)⟩

theorem granted_grantHead {s : State} {q : QueueId} {w : Waiter} (h : s.eligibleHead q = some w) :
    Granted s (s.grantHead q w) := by
  obtain ⟨⟨ws, hw⟩, -⟩ := eligibleHead_eq_some.1 h
  have hset := grantsOnly_grantPush (s.setWaiters q .push (s.queue q).pushWaiters.tail) q w.requester w.tag w.length
  refine ⟨⟨hset.arrivals, hset.link, hset.arbiterDue, hset.pending⟩, ⟨_, grantPush_reservations _ _ _ _ _, ?_⟩, fun p => ?_⟩
  · intro e he
    rw [List.mem_singleton.1 he]
    exact ⟨rfl, by rw [show (newEntry q _ _ _ _).queue = q from rfl, hw]; exact List.cons_ne_nil _ _⟩
  · by_cases hp : p = q
    · subst hp
      rw [grantHead_queue_same]
      exact .mk [w] _ _ _ (by rw [hw]; rfl)
    · rw [grantHead_queue_other _ _ hp]
      exact .refl _

/-! ### The arbiter -/

theorem arbitrate_of_no_head {s : State} (h : ∀ q, s.eligibleHead q = none) : s.arbitrate = s :=
  arbitrateFor_of_none (earliestEligible_eq_none.2 h) _

theorem arbitrate_of_no_waiter {s : State} (h : ∀ q, (s.queue q).pushWaiters = []) : s.arbitrate = s :=
  arbitrate_of_no_head (fun q => eligibleHead_of_no_waiter (h q))

theorem arbitrate_of_some {s : State} {q : QueueId} {w : Waiter} (hl : s.reservations.length < 48)
    (h : s.earliestEligible = some (q, w)) : s.arbitrate = (s.grantHead q w).arbitrate := by
  have hn : 48 - s.reservations.length = 48 - (s.grantHead q w).reservations.length + 1 := by
    rw [grantHead_reservations_length]
    omega
  rw [State.arbitrate, State.arbitrate, Config.reservationEntries, hn, arbitrateFor_of_some h]

/-- What each grant of the arbiter keeps, its run keeps. -/
theorem arbitrate_keeps {P : State → Prop}
    (hP : ∀ u q w, P u → u.eligibleHead q = some w → u.reservations.length < 48 → P (u.grantHead q w))
    {s : State} (h : P s) : P s.arbitrate := by
  have key : ∀ n (u : State), u.reservations.length + n ≤ 48 → P u → P (u.arbitrateFor n) := by
    intro n
    induction n with
    | zero => exact fun u _ hu => hu
    | succ n ih =>
      intro u hn hu
      cases he : u.earliestEligible with
      | none => rwa [arbitrateFor_of_none he]
      | some c =>
        rw [arbitrateFor_of_some he]
        exact ih _ (by rw [grantHead_reservations_length]; omega) (hP _ _ _ hu (earliestEligible_eq_some he).1 (by omega))
  by_cases hfull : 48 ≤ s.reservations.length
  · rwa [arbitrate_of_full hfull]
  · exact key _ s (by unfold Config.reservationEntries; omega) h

/-- The arbiter goes on until no entry is free or no head is eligible. -/
theorem arbitrate_stops (s : State) : 48 ≤ s.arbitrate.reservations.length ∨ ∀ q, s.arbitrate.eligibleHead q = none := by
  have key : ∀ n (u : State), 48 ≤ u.reservations.length + n →
      48 ≤ (u.arbitrateFor n).reservations.length ∨ ∀ q, (u.arbitrateFor n).eligibleHead q = none := by
    intro n
    induction n with
    | zero => exact fun u hu => .inl hu
    | succ n ih =>
      intro u hu
      cases he : u.earliestEligible with
      | none =>
        rw [arbitrateFor_of_none he]
        exact .inr (earliestEligible_eq_none.1 he)
      | some c =>
        rw [arbitrateFor_of_some he]
        exact ih _ (by rw [grantHead_reservations_length]; omega)
  exact key _ s (by unfold Config.reservationEntries; omega)

theorem granted_arbitrate (s : State) : Granted s s.arbitrate :=
  arbitrate_keeps (P := Granted s) (fun _ _ _ hu he _ => hu.trans (granted_grantHead he)) (.refl s)

theorem arbitrate_reservations_length_le {s : State} (h : s.reservations.length ≤ 48) :
    s.arbitrate.reservations.length ≤ 48 :=
  arbitrate_keeps (P := fun u => u.reservations.length ≤ 48)
    (fun u q w _ _ hlt => by rw [grantHead_reservations_length]; omega) h

/-! ### Re-examination of a Push Waiter list (R78) -/

theorem pushFits_of_eligible {s : State} {q : QueueId} {w : Waiter} {ws : List Waiter}
    (hw : (s.queue q).pushWaiters = w :: ws) (hf : s.pushFits q w.length = true) :
    s.eligibleHead q = some w ∧ s.reservations.length < 48 :=
  ⟨eligibleHead_eq_some.2 ⟨⟨ws, hw⟩, ((pushFits_iff _ _ _).1 hf).1⟩, ((pushFits_iff _ _ _).1 hf).2⟩

/-- Re-examination goes on with the state that the grant of the head leaves. -/
theorem reexaminePushFrom_cons {s : State} {q : QueueId} {w : Waiter} {ws : List Waiter}
    (h : (s.queue q).pushWaiters = w :: ws) : s.reexaminePushFrom q (w :: ws) =
      if s.pushFits q w.length then (s.grantHead q w).reexaminePushFrom q ws else s := by
  rw [State.reexaminePushFrom, State.grantHead, h, List.tail_cons]

/-- What each grant of a re-examination keeps, the re-examination keeps; and it goes on until the list is empty, or its head finds
no space or no entry. -/
theorem reexaminePushFrom_spec {P : State → Prop} {q : QueueId}
    (hP : ∀ u w, P u → u.eligibleHead q = some w → u.reservations.length < 48 → P (u.grantHead q w))
    (ws : List Waiter) {s : State} (hws : (s.queue q).pushWaiters = ws) (h : P s) :
    P (s.reexaminePushFrom q ws) ∧
      (48 ≤ (s.reexaminePushFrom q ws).reservations.length ∨ (s.reexaminePushFrom q ws).eligibleHead q = none) := by
  induction ws generalizing s with
  | nil => exact ⟨h, .inr (eligibleHead_of_no_waiter hws)⟩
  | cons w ws ih =>
    rw [reexaminePushFrom_cons hws]
    split
    next hf =>
      obtain ⟨he, hl⟩ := pushFits_of_eligible hws hf
      exact ih (by rw [grantHead_queue_same, hws]; rfl) (hP _ _ h he hl)
    next hf =>
      refine ⟨h, ?_⟩
      rw [pushFits_iff, not_and_or, not_lt] at hf
      refine hf.symm.imp id (fun hfree => eligibleHead_eq_none.2 (fun v vs hv => ?_))
      rw [hws] at hv
      rw [← (List.cons.inj hv).1]
      exact Nat.lt_of_not_le hfree

theorem granted_reexaminePush (s : State) (q : QueueId) : Granted s (s.reexaminePush q) :=
  (reexaminePushFrom_spec (P := Granted s) (fun _ _ hu he _ => hu.trans (granted_grantHead he)) _ rfl (.refl s)).1

theorem reexaminePush_queue_other (s : State) {p q : QueueId} (h : p ≠ q) : (s.reexaminePush q).queue p = s.queue p :=
  (reexaminePushFrom_spec (P := fun u => u.queue p = s.queue p)
    (fun _ w hu _ _ => (grantHead_queue_other _ w h).trans hu) _ rfl rfl).1

theorem reexaminePush_stops (s : State) (q : QueueId) :
    48 ≤ (s.reexaminePush q).reservations.length ∨ (s.reexaminePush q).eligibleHead q = none :=
  (reexaminePushFrom_spec (P := fun _ => True) (fun _ _ _ _ _ => trivial) _ rfl trivial).2

/-! ### What the freeing of an entry starts (R36, R37) -/

theorem presentedTakes_of_no_arrival {s : State} (h : s.sys.arrivals = []) : s.presentedTakes = false := by
  simp [State.presentedTakes, h]

theorem entryFreed_of_no_waiter {s : State} (h : ∀ q, (s.queue q).pushWaiters = []) : s.entryFreed = s := by
  rw [State.entryFreed, if_pos ((noPushWaiter_iff s).2 h)]

theorem pushArriving_of_noRequestNext {s : State} (h : s.noRequestNext) : s.pushArriving = false := by
  cases ha : s.pushArriving with
  | false => rfl
  | true =>
    obtain ⟨q, rest, hp, -⟩ := pushArriving_pending ha
    exact absurd hp (h q rest)

/-- With nothing stalled and no TAKE_REQUEST next, the arbiter runs. -/
theorem entryFreed_eq_arbitrate {s : State} (ha : s.sys.arrivals = []) (hn : s.noRequestNext) :
    s.entryFreed = s.arbitrate := by
  by_cases hw : s.noPushWaiter = true
  · rw [State.entryFreed, if_pos hw, arbitrate_of_no_waiter ((noPushWaiter_iff s).1 hw)]
  · rw [State.entryFreed, if_neg hw, presentedTakes_of_no_arrival ha, pushArriving_of_noRequestNext hn]
    rfl

end Sys2Proof.Machine.Laws

namespace Sys2Proof.Machine.Laws

open Sys2Proof Sys2Proof.Machine

/-! ### A request that is taken as it is presented (R135) -/

theorem canTake_of_takes {s : State} {r : Request} (h : s.takes r) : s.canTake r = true := by
  obtain ⟨-, -, hreset, hlen, hfresh⟩ := h
  refine (canTake_iff s r).2 ⟨hreset, hlen, fun hmem => ?_⟩
  obtain ⟨x, hx, hk⟩ := List.mem_map.1 hmem
  exact hfresh x hx (Prod.mk.inj hk)

theorem presentRequest_of_takes {s : State} {r : Request} (ha : s.sys.arrivals = []) (hc : s.canTake r = true) :
    s.presentRequest r = s.take r := by
  have harr : (s.withSys { s.sys with arrivals := s.sys.arrivals ++ [r] }).sys.arrivals = [r] := by simp [ha]
  have hcan : (s.withSys { s.sys with arrivals := s.sys.arrivals ++ [r] }).canTake r = true := hc
  have hback : ((s.withSys { s.sys with arrivals := s.sys.arrivals ++ [r] }).withSys
      { s.sys with arrivals := [] }) = s := by rw [← ha]; rfl
  rw [State.presentRequest, State.takePresented, harr, State.takeFrom, if_pos hcan, State.takeFrom]
  exact congrArg (State.take · r) hback

theorem outcome_of_wellPlaced {r : Request} (s : State) (h : wellPlaced r) : s.outcome r = s.decode r := by
  have hform : formCheck r = none := by
    obtain ⟨h8, hpage⟩ := h
    simp only [formCheck, Config.pageBytes, h8, ne_eq, not_true_eq_false, if_false, Nat.not_lt.2 hpage]
  rw [State.outcome, hform]

/-- The transaction just made is found under its requester and tag, and its beat mode alone is set. -/
theorem setBeatMode_tracked {s : State} {r : Request} (hc : s.canTake r = true) (d : Decoded) (m : Option BeatMode)
    (m' : BeatMode) : (s.tracked r d m).setBeatMode r.requester r.tag m' = s.tracked r d (some m') := by
  have hold : ∀ x ∈ s.sys.tracker, x.named r.requester r.tag = false := by
    intro x hx
    by_contra hn
    obtain ⟨hr, ht⟩ := (named_iff x _ _).1 (by simpa using hn)
    exact ((canTake_iff s r).1 hc).2.2 (List.mem_map.2 ⟨x, hx, Prod.ext hr ht⟩)
  have hnew : ∀ m, (⟨r, d, m, 0, [], none⟩ : Transaction).named r.requester r.tag = true :=
    fun m => (named_iff _ _ _).2 ⟨rfl, rfl⟩
  have hfind : (s.tracked r d m).transaction r.requester r.tag = some ⟨r, d, m, 0, [], none⟩ := by
    have hnone : s.sys.tracker.find? (fun x => x.named r.requester r.tag) = none := by simpa using hold
    simp [State.transaction, State.tracked, List.find?_append, hnone, hnew]
  have hmap : s.sys.tracker.map (fun y => if y.named r.requester r.tag then ⟨r, d, some m', 0, [], none⟩ else y) =
      s.sys.tracker :=
    (List.map_congr_left (fun x hx => by rw [hold x hx]; rfl)).trans (List.map_id _)
  simp only [State.setBeatMode, hfind]
  simp only [State.setTransaction, State.tracked, withSys_sys, List.map_append, hmap, List.map_cons, hnew, if_true,
    List.map_nil]
  rfl

/-- The beat mode of a transaction is set beside the Reservation Table and the queues. -/
theorem setBeatMode_comm (s : State) (l : List Entry) (q : QueueId) (x : Queue) (r : Requester) (t : Tag) (m : BeatMode) :
    ((s.withReservations l).setQueue q x).setBeatMode r t m = ((s.setBeatMode r t m).withReservations l).setQueue q x := by
  have htr : ((s.withReservations l).setQueue q x).transaction r t = s.transaction r t := rfl
  unfold State.setBeatMode
  rw [htr]
  cases s.transaction r t <;> rfl

/-- Case 6 of R71. -/
theorem decidePush_granted {s : State} {q : QueueId} {L : BurstLength} (hs : (s.queue q).state = .running)
    (hp : (s.queue q).pushWaiters = []) (hf : 1 + L.val ≤ (s.queue q).free) (hl : s.reservations.length < 48)
    (r : Requester) (t : Tag) : s.decidePush q r t L = s.grantPush q r t L := by
  have hsize : (s.queue q).config.ringSize ≠ 0 := by
    unfold Queue.free at hf
    omega
  have hfits : ¬(s.queue q).free < recordWords L := Nat.not_lt.2 hf
  simp only [State.decidePush, hsize, if_false, hs, hp, ne_eq, not_true_eq_false, hfits, (entryFree_iff s).2 hl, if_true]

/-- A push that fits, with no push waiting before it, is granted in the event that takes it (R21, R71). -/
theorem presentRequest_granted {s : State} {r : Request} {q : QueueId} (ha : s.sys.arrivals = [])
    (hc : s.canTake r = true) (hw : wellPlaced r) (hd : s.decode r = .push q) (hs : (s.queue q).state = .running)
    (hp : (s.queue q).pushWaiters = []) (hf : 1 + r.beats.val ≤ (s.queue q).free) (hl : s.reservations.length < 48) :
    s.presentRequest r = ((s.tracked r (.push q) (some .handing)).withReservations
      (s.reservations ++ [newEntry q (s.queue q) r.requester r.tag r.beats])).setQueue q { s.queue q with
        reserve := advance (s.queue q).reserve (recordWords r.beats)
        nextSequence := (s.queue q).nextSequence + 1 } := by
  have htake : s.take r = (s.tracked r (.push q) (initialBeatMode r (.push q))).decidePush q r.requester r.tag r.beats := by
    rw [State.take, outcome_of_wellPlaced s hw, hd]
    rfl
  have hgrant := decidePush_granted (s := s.tracked r (.push q) (initialBeatMode r (.push q))) hs hp hf hl r.requester r.tag
  rw [presentRequest_of_takes ha hc, htake, hgrant, ← setBeatMode_tracked hc, ← setBeatMode_comm]
  rfl

/-- Settles O27: the request is taken as it is presented, and case 6 of R71 grants it. -/
theorem pushThatFitsIsGranted : Obligations.PushThatFitsIsGranted := by
  intro s r q ht hw hd hs hp hf hl
  have hexec : exec (.takeRequest r) s = .next (s.clearOutputs.presentRequest r) :=
    congrArg _ (presentAndArbitrate_of_not_due (s := s.clearOutputs) r ht.2.1)
  rw [hexec, presentRequest_granted (s := s.clearOutputs) ht.1 (canTake_of_takes ht) hw hd hs hp hf hl]
  rfl

/-! ### The arbiter's laws -/

/-- R36: the arbiter takes no entry beyond the 48, moves no position but reserve, and stops only where it must. -/
theorem arbitrate_frame {s : State} (h : s.reservations.length ≤ 48) :
    (s.arbitrate.reservations.length = 48 ∨ ∀ q, s.arbitrate.eligibleHead q = none) ∧
    (∃ granted, s.arbitrate.reservations = s.reservations ++ granted ∧ s.arbitrate.reservations.length ≤ 48) ∧
    (∀ q, (s.arbitrate.queue q).release = (s.queue q).release ∧ (s.arbitrate.queue q).read = (s.queue q).read ∧
      (s.arbitrate.queue q).commit = (s.queue q).commit ∧ (s.arbitrate.queue q).state = (s.queue q).state ∧
      (s.arbitrate.queue q).popWaiters = (s.queue q).popWaiters ∧
      ∃ gone, (s.queue q).pushWaiters = gone ++ (s.arbitrate.queue q).pushWaiters) := by
  have hle := arbitrate_reservations_length_le h
  obtain ⟨-, ⟨new, hnew, -⟩, hqueues⟩ := granted_arbitrate s
  refine ⟨(arbitrate_stops s).imp (fun h48 => Nat.le_antisymm hle h48) id, ⟨new, hnew, hle⟩, fun q => ?_⟩
  have hq := hqueues q
  generalize s.arbitrate.queue q = y at hq
  obtain ⟨gone, ws, p, n, hw⟩ := hq
  exact ⟨rfl, rfl, rfl, rfl, rfl, gone, hw⟩

/-- R36, R37: with nothing stalled, or no push waiting, the freeing of an entry starts the arbiter, puts its run off, or starts
nothing. -/
theorem entryFreed_outcomes {s : State} (h : (∀ k, (s.queue k).pushWaiters = []) ∨ s.sys.arrivals = []) :
    s.entryFreed = s ∨ s.entryFreed = s.arbitrate ∨ s.entryFreed = s.useFree.arbitrate ∨
      s.entryFreed = s.useFree.withArbiterDue true := by
  obtain ⟨-, he⟩ | ⟨hw, he | he | ⟨hp, -⟩ | ⟨-, he⟩⟩ := entryFreed_cases s
  · exact .inl he
  · exact .inr (.inl he)
  · exact .inr (.inr (.inl he))
  · obtain hnone | harr := h
    · rw [(noPushWaiter_iff s).2 hnone] at hw
      cases hw
    · rw [presentedTakes_of_no_arrival harr] at hp
      cases hp
  · exact .inr (.inr (.inr he))

/-- R37: the push that the arbiter's run was put off for takes the last free entry, and the arbiter behind it finds none. -/
theorem takeRequest_before_arbiter {s : State} {r : Request} {q : QueueId} (hdue : s.arbiterDue = true)
    (ht : (s.withArbiterDue false).takes r) (hw : wellPlaced r) (hd : s.decode r = .push q)
    (hs : (s.queue q).state = .running) (hp : (s.queue q).pushWaiters = []) (hf : 1 + r.beats.val ≤ (s.queue q).free)
    (hl : s.reservations.length = 47) :
    ∃ t e, exec (.takeRequest r) s = .next t ∧ t.reservations = s.reservations ++ [e] ∧ e.queue = q ∧
      e.requester = r.requester ∧ e.tag = r.tag ∧ e.start = (s.queue q).reserve ∧ t.arbiterDue = false ∧
      ∀ k, (t.queue k).pushWaiters = (s.queue k).pushWaiters := by
  have hexec : exec (.takeRequest r) s = .next ((s.clearOutputs.withArbiterDue false).presentRequest r).arbitrate :=
    congrArg _ (presentAndArbitrate_of_due (s := s.clearOutputs) r hdue)
  have hgrant := presentRequest_granted (s := s.clearOutputs.withArbiterDue false) ht.1 (canTake_of_takes ht) hw hd hs hp hf
    (hl.trans_lt (by decide))
  have hfull : 48 ≤ ((s.clearOutputs.withArbiterDue false).presentRequest r).reservations.length := by
    rw [hgrant, setQueue_reservations, withReservations_reservations, List.length_append, List.length_singleton]
    exact Nat.le_of_eq (congrArg (· + 1) hl.symm)
  rw [arbitrate_of_full hfull, hgrant] at hexec
  refine ⟨_, newEntry q (s.queue q) r.requester r.tag r.beats, hexec, rfl, rfl, rfl, rfl, rfl, rfl, fun k => ?_⟩
  rw [setQueue_queue]
  split
  next hk => exact hk ▸ rfl
  next => rfl

/-- Settles O40. -/
theorem arbiterLeavesNoEligibleHead : Obligations.ArbiterLeavesNoEligibleHead := by
  refine ⟨fun s h => arbitrate_frame h, ?_, ?_, ?_, ?_, ?_⟩
  · intro s q w h
    obtain ⟨he, hle⟩ := earliestEligible_eq_some h
    obtain ⟨hw, hf⟩ := eligibleHead_eq_some.1 he
    exact ⟨hw, hf, hle⟩
  · refine fun s => ⟨?_, fun q w hl h => ⟨arbitrate_of_some hl h, rfl⟩, ?_⟩
    · rintro ⟨q, hq⟩ hnone
      exact hq (earliestEligible_eq_none.1 hnone q)
    · rintro (h | h)
      · exact arbitrate_of_full h
      · exact arbitrate_of_no_head h
  · refine fun s h => ⟨entryFreed_outcomes h, fun hn => ?_⟩
    split
    next hw => exact entryFreed_of_no_waiter hw
    next hw => exact entryFreed_eq_arbitrate (h.resolve_left hw) hn
  · intro s r hdue
    exact ⟨_, rfl, congrArg _ (presentAndArbitrate_of_due (s := s.clearOutputs) r hdue)⟩
  · exact fun s r q hdue ht hw hd hs hp hf hl => takeRequest_before_arbiter hdue ht hw hd hs hp hf hl

end Sys2Proof.Machine.Laws

namespace Sys2Proof.Machine.Laws

open Sys2Proof Sys2Proof.Machine

/-! ### The waiting laws, queue by queue -/

/-- Waiters wait only in the states that may keep them (R83, R88). -/
def Waits (x : Queue) : Prop :=
  (x.pushWaiters ≠ [] → x.state = .running) ∧ (x.popWaiters ≠ [] → x.state = .running ∨ x.state = .draining)

/-- The head of the Pop Waiter list cannot be granted (R80). -/
def PopHeadStays (x : Queue) : Prop :=
  ∀ w ws, x.popWaiters = w :: ws → x.visible < w.length.val ∨ 16 ≤ x.popEntries.length

/-- The head of the Push Waiter list does not fit (R36). -/
def PushHeadStays (x : Queue) : Prop := ∀ w ws, x.pushWaiters = w :: ws → x.free < recordWords w.length

theorem headLaw_iff (s : State) :
    HeadLaw s ↔ (s.arbiterDue = false → s.reservations.length < 48 → ∀ q, PushHeadStays (s.queue q)) := by
  simp only [HeadLaw, eligibleHead_eq_none, PushHeadStays]

/-- A property of every queue, of which an event has changed one. -/
theorem forall_queue_of_other {P : Queue → Prop} {s t : State} {q : QueueId} (h : ∀ p, p ≠ q → t.queue p = s.queue p)
    (hs : ∀ p, p ≠ q → P (s.queue p)) (hq : P (t.queue q)) (p : QueueId) : P (t.queue p) := by
  by_cases hp : p = q
  · exact hp ▸ hq
  · exact h p hp ▸ hs p hp

theorem Waits.of_no_waiter {x : Queue} (hp : x.pushWaiters = []) (hv : x.popWaiters = []) : Waits x :=
  ⟨fun h => absurd hp h, fun h => absurd hv h⟩

theorem PopHeadStays.of_no_waiter {x : Queue} (h : x.popWaiters = []) : PopHeadStays x :=
  fun _ _ hw => by rw [h] at hw; cases hw

theorem PushHeadStays.of_no_waiter {x : Queue} (h : x.pushWaiters = []) : PushHeadStays x :=
  fun _ _ hw => by rw [h] at hw; cases hw

/-- A queue that has neither RUNNING nor DRAINING as its state has no waiter. -/
theorem Waits.no_waiter {x : Queue} (h : Waits x) (hr : x.state ≠ .running) (hd : x.state ≠ .draining) :
    x.pushWaiters = [] ∧ x.popWaiters = [] := by
  obtain ⟨hpush, hpop⟩ := h
  exact ⟨Classical.byContradiction (fun hne => hr (hpush hne)),
    Classical.byContradiction (fun hne => (hpop hne).elim hr hd)⟩

theorem Waits.no_pusher {x : Queue} (h : Waits x) (hr : x.state ≠ .running) : x.pushWaiters = [] :=
  Classical.byContradiction (fun hne => hr (h.1 hne))

/-- The laws of the waiting requests, as they stand between two commands (R36, R78, R80, R83). -/
structure Settled (s : State) : Prop where
  waits    : WaiterLaw s
  popHeads : PopHeadLaw s
  heads    : HeadLaw s

/-- What changes no queue, frees no entry and leaves the arbiter's mark keeps the waiting laws. -/
theorem headLaw_of_same {s t : State} (h : HeadLaw s) (hq : t.queues = s.queues)
    (hl : s.reservations.length ≤ t.reservations.length) (hd : t.arbiterDue = s.arbiterDue) : HeadLaw t := by
  intro hdue hlen q
  rw [eligibleHead_congr (s := s) (by simp only [State.queue, hq])]
  exact h (hd ▸ hdue) (by omega) q

theorem Settled.of_same {s t : State} (h : Settled s) (hq : t.queues = s.queues)
    (hl : s.reservations.length ≤ t.reservations.length) (hd : t.arbiterDue = s.arbiterDue) : Settled t := by
  have hqueue : ∀ q, t.queue q = s.queue q := fun q => by simp only [State.queue, hq]
  exact ⟨fun q => hqueue q ▸ h.waits q, fun q => hqueue q ▸ h.popHeads q, headLaw_of_same h.heads hq hl hd⟩

theorem AnswersOnly.settled {s t : State} (h : AnswersOnly s t) (k : Settled s) : Settled t :=
  k.of_same h.queues (by rw [h.reservations]) h.arbiterDue

/-- An event that changes one queue, and frees no entry. -/
theorem headLaw_of_other {s t : State} {q : QueueId} (h : HeadLaw s) (hq : ∀ p, p ≠ q → t.queue p = s.queue p)
    (hl : s.reservations.length ≤ t.reservations.length) (hd : t.arbiterDue = s.arbiterDue)
    (hx : PushHeadStays (s.queue q) → PushHeadStays (t.queue q)) : HeadLaw t := by
  rw [headLaw_iff] at h ⊢
  intro hdue hlen
  have hs := h (hd ▸ hdue) (by omega)
  exact forall_queue_of_other hq (fun p _ => hs p) (hx (hs q))

/-! ### Decisions (R71, R73) -/

/-- What the decision for a request makes of a queue: nothing, a grant or a joining, each with the case of R71 or R73 that allows
it, or the entry into FAULTED. `full` says that no reservation entry is free. -/
inductive Decided (full : Prop) (x : Queue) : Queue → Prop
  | stays : Decided full x x
  | grantsPush (p : Position) (n : Sequence) : x.pushWaiters = [] →
      Decided full x { x with reserve := p, nextSequence := n }
  | joinsPush (w : Waiter) : x.state = .running → x.pushWaiters ≠ [] ∨ x.free < recordWords w.length ∨ full →
      Decided full x { x with pushWaiters := x.pushWaiters ++ [w] }
  | grantsPop (p : Position) (es : List PopEntry) (armed : Bool) : x.popWaiters = [] →
      Decided full x { x with read := p, popEntries := es, noticeArmed := armed }
  | joinsPop (w : Waiter) : x.state = .running ∨ x.state = .draining →
      x.popWaiters ≠ [] ∨ x.visible < w.length.val ∨ 16 ≤ x.popEntries.length →
      Decided full x { x with popWaiters := x.popWaiters ++ [w] }
  | faults (y : Queue) : y.pushWaiters = [] → y.popWaiters = [] → Decided full x y

/-- The head of a list that a waiter has joined. -/
theorem head_of_append {l : List Waiter} {w v : Waiter} {vs : List Waiter} (h : l ++ [w] = v :: vs) :
    (∃ us, l = v :: us) ∨ l = [] ∧ w = v := by
  cases l with
  | nil => exact .inr ⟨rfl, by simpa using (List.cons.inj h).1⟩
  | cons a l => exact .inl ⟨l, by rw [(List.cons.inj h).1]⟩

theorem Decided.waits {full : Prop} {x y : Queue} (h : Decided full x y) (k : Waits x) : Waits y := by
  cases h with
  | joinsPush w hs _ => exact ⟨fun _ => hs, k.2⟩
  | joinsPop w hs _ => exact ⟨k.1, fun _ => hs⟩
  | faults _ hp hv => exact .of_no_waiter hp hv
  | _ => exact k

theorem Decided.popHead {full : Prop} {x y : Queue} (h : Decided full x y) (k : PopHeadStays x) : PopHeadStays y := by
  cases h with
  | grantsPop p es armed hv => exact .of_no_waiter hv
  | joinsPop w _ hw =>
    intro v vs hvs
    obtain ⟨us, hus⟩ | ⟨hnil, rfl⟩ := head_of_append hvs
    · exact k v us hus
    · exact hw.resolve_left (fun hne => hne hnil)
  | faults _ _ hv => exact .of_no_waiter hv
  | _ => exact k

theorem Decided.pushHead {full : Prop} {x y : Queue} (h : Decided full x y) (hfull : ¬full) (k : PushHeadStays x) :
    PushHeadStays y := by
  cases h with
  | grantsPush p n hp => exact .of_no_waiter hp
  | joinsPush w _ hw =>
    intro v vs hvs
    obtain ⟨us, hus⟩ | ⟨hnil, rfl⟩ := head_of_append hvs
    · exact k v us hus
    · exact (hw.resolve_left (fun hne => hne hnil)).resolve_right hfull
  | faults _ hp _ => exact .of_no_waiter hp
  | _ => exact k

/-- What the taking of a request can do: a decision for each queue, and no entry freed. -/
structure Taken (s t : State) : Prop where
  due     : t.arbiterDue = s.arbiterDue
  entries : s.reservations.length ≤ t.reservations.length
  queues  : ∀ q, Decided (48 ≤ s.reservations.length) (s.queue q) (t.queue q)

theorem Taken.headLaw {s t : State} (h : Taken s t) (k : HeadLaw s) : HeadLaw t := by
  rw [headLaw_iff] at k ⊢
  intro hdue hlen q
  have hlt := Nat.lt_of_le_of_lt h.entries hlen
  exact (h.queues q).pushHead (Nat.not_le_of_lt hlt) (k (h.due ▸ hdue) hlt q)

theorem AnswersOnly.taken {s t : State} (h : AnswersOnly s t) : Taken s t :=
  ⟨h.arbiterDue, by rw [h.reservations], fun q => h.queue q ▸ .stays⟩

/-- A decision for one queue. -/
theorem Taken.of_other {s t : State} {q : QueueId} (hd : t.arbiterDue = s.arbiterDue)
    (hl : s.reservations.length ≤ t.reservations.length) (ho : ∀ p, p ≠ q → t.queue p = s.queue p)
    (hq : Decided (48 ≤ s.reservations.length) (s.queue q) (t.queue q)) : Taken s t := by
  refine ⟨hd, hl, fun p => ?_⟩
  by_cases hp : p = q
  · exact hp ▸ hq
  · exact ho p hp ▸ .stays

/-- A join makes a waiter where a hold slot is free, and answers otherwise (R76). -/
theorem join_cases (s : State) (q : QueueId) (side : Side) (r : Requester) (t : Tag) (L : BurstLength) :
    AnswersOnly s (s.join q side r t L) ∨ ∃ w : Waiter, w.length = L ∧ s.join q side r t L =
      (s.setWaiters q side ((s.queue q).waiters side ++ [w])).withHold { s.hold with nextJoin := s.hold.nextJoin + 1 } := by
  unfold State.join
  split
  · exact .inr ⟨⟨r, t, L, s.hold.nextJoin, s.hold.clock + (s.queue q).config.holdLimit⟩, rfl, rfl⟩
  · exact .inl (answersOnly_retry _ _ _ _ _)

theorem taken_joinPush {s : State} {q : QueueId} {L : BurstLength} (r : Requester) (t : Tag)
    (hs : (s.queue q).state = .running) (hw : (s.queue q).pushWaiters ≠ [] ∨ (s.queue q).free < recordWords L ∨
      48 ≤ s.reservations.length) : Taken s (s.join q .push r t L) := by
  obtain h | ⟨w, rfl, h⟩ := join_cases s q .push r t L
  · exact h.taken
  · rw [h]
    refine .of_other (q := q) rfl le_rfl (fun p hp => ?_) ?_
    · rw [withHold_queue, setWaiters_queue, if_neg hp]
    · rw [withHold_queue, setWaiters_queue_same]
      exact .joinsPush w hs hw

theorem taken_joinPop {s : State} {q : QueueId} {L : BurstLength} (r : Requester) (t : Tag)
    (hs : (s.queue q).state = .running ∨ (s.queue q).state = .draining) (hw : (s.queue q).popWaiters ≠ [] ∨
      (s.queue q).visible < L.val ∨ 16 ≤ (s.queue q).popEntries.length) : Taken s (s.join q .pop r t L) := by
  obtain h | ⟨w, rfl, h⟩ := join_cases s q .pop r t L
  · exact h.taken
  · rw [h]
    refine .of_other (q := q) rfl le_rfl (fun p hp => ?_) ?_
    · rw [withHold_queue, setWaiters_queue, if_neg hp]
    · rw [withHold_queue, setWaiters_queue_same]
      exact .joinsPop w hs hw

theorem releaseAll_arbiterDue (s : State) (q : QueueId) (reason : Reason) :
    (s.releaseAll q reason).arbiterDue = s.arbiterDue :=
  (answersOnly_declineWaiters _ _ _ _).arbiterDue.trans (answersOnly_declineWaiters _ _ _ _).arbiterDue

/-- The answer of LATCH, with the fault it triggers (R72, R74). -/
theorem taken_latch (s : State) (q : QueueId) (r : Requester) (t : Tag) (reason : Reason) (fault : FaultReason) :
    Taken s ((s.declineQueue q r t reason).faultTrigger q fault) := by
  have ha := answersOnly_declineQueue s q r t reason
  obtain ⟨-, h⟩ | ⟨-, h⟩ := faultTrigger_cases (s.declineQueue q r t reason) q fault
  · rw [h]
    refine .of_other (q := q) ?_ ?_ (fun p hp => ?_) ?_
    · rw [State.enterFaulted, releaseAll_arbiterDue, appendLog_arbiterDue, modifyQueue_arbiterDue, ha.arbiterDue]
    · rw [enterFaulted_reservations, ha.reservations]
    · rw [enterFaulted_queue_other _ _ hp, ha.queue]
    · rw [enterFaulted_queue_same]
      exact .faults _ rfl rfl
  · rw [h]
    exact ha.taken

theorem taken_decidePush (s : State) (q : QueueId) (r : Requester) (t : Tag) (L : BurstLength) :
    Taken s (s.decidePush q r t L) := by
  have hanswer : ∀ reason, Taken s (s.declineQueue q r t reason) := fun reason =>
    (answersOnly_declineQueue s q r t reason).taken
  unfold State.decidePush
  dsimp only
  split
  · exact hanswer _
  · split
    · exact hanswer _
    · exact hanswer _
    · exact hanswer _
    · exact hanswer _
    next hs =>
      split
      next hne => exact taken_joinPush r t hs (.inl hne)
      next hnil =>
        split
        next hfree =>
          unfold State.applyFullPolicy
          split
          · exact taken_joinPush r t hs (.inr (.inl hfree))
          · exact (answersOnly_retry _ _ _ _ _).taken
          · exact taken_latch _ _ _ _ _ _
        next =>
          split
          · refine .of_other (q := q) (grantsOnly_grantPush s q r t L).arbiterDue ?_
              (fun p hp => grantPush_queue_other s r t L hp) ?_
            · rw [grantPush_reservations, List.length_append]
              exact Nat.le_add_right _ _
            · rw [grantPush_queue_same]
              exact .grantsPush _ _ (not_not.1 hnil)
          next hfull => exact taken_joinPush r t hs (.inr (.inr (Nat.le_of_not_lt (mt (entryFree_iff s).2 hfull))))

/-- A pop grant moves read, adds a pop entry and may arm the notice (R57, R113). -/
theorem grantPop_queue_same (s : State) (q : QueueId) (r : Requester) (t : Tag) (L : BurstLength) : ∃ e armed,
    (s.grantPop q r t L).queue q = { s.queue q with
      read := advance (s.queue q).read L.val
      popEntries := (s.queue q).popEntries ++ [e]
      noticeArmed := armed } := by
  rw [State.grantPop, present_queue, setQueue_queue_same, Queue.rearmBelow]
  split
  · exact ⟨_, true, rfl⟩
  · exact ⟨_, (s.queue q).noticeArmed, rfl⟩

theorem taken_decidePopActive {s : State} {q : QueueId} (r : Requester) (t : Tag) (L : BurstLength)
    (hs : (s.queue q).state = .running ∨ (s.queue q).state = .draining) : Taken s (s.decidePopActive q r t L) := by
  unfold State.decidePopActive
  dsimp only
  split
  next hne => exact taken_joinPop r t hs (.inl hne)
  next hnil =>
    split
    next hvis =>
      split
      · exact (answersOnly_declineQueue _ _ _ _ _).taken
      · unfold State.applyEmptyPolicy
        split
        · exact taken_joinPop r t hs (.inr (.inl hvis))
        · exact (answersOnly_retry _ _ _ _ _).taken
        · exact taken_latch _ _ _ _ _ _
    next =>
      split
      · refine .of_other (q := q) rfl le_rfl (fun p hp => grantPop_queue_other s r t L hp) ?_
        obtain ⟨e, armed, h⟩ := grantPop_queue_same s q r t L
        rw [h]
        exact .grantsPop _ _ _ (not_not.1 hnil)
      next hfull => exact taken_joinPop r t hs (.inr (.inr (Nat.le_of_not_lt hfull)))

theorem taken_decidePop (s : State) (q : QueueId) (r : Requester) (t : Tag) (L : BurstLength) :
    Taken s (s.decidePop q r t L) := by
  have hanswer : ∀ reason, Taken s (s.declineQueue q r t reason) := fun reason =>
    (answersOnly_declineQueue s q r t reason).taken
  unfold State.decidePop
  dsimp only
  split
  · exact hanswer _
  · split
    · exact hanswer _
    · exact hanswer _
    · exact hanswer _
    next hs => exact taken_decidePopActive r t L (.inl hs)
    next hs => exact taken_decidePopActive r t L (.inr hs)

theorem taken_take (s : State) (q : Request) : Taken s (s.take q) := by
  have hcarry : ∀ (u : State) d, Taken u (u.carry q d) := by
    intro u d
    unfold State.carry
    split
    · exact (answersOnly_declineAddress _ _ _).taken
    · exact (answersOnly_declineAddress _ _ _).taken
    · exact taken_decidePush _ _ _ _ _
    · exact taken_decidePop _ _ _ _ _
    · split
      · exact ⟨rfl, le_rfl, fun _ => .stays⟩
      · exact ⟨rfl, le_rfl, fun _ => .stays⟩
  obtain ⟨hd, hl, hq⟩ := hcarry (s.withSys { s.sys with tracker := s.sys.tracker ++ [newTransaction q (s.outcome q)] })
    (s.outcome q)
  exact ⟨hd, hl, hq⟩

/-- What every taking keeps, the taking test keeps, whatever its requests (R135). -/
theorem takeFrom_keeps {P : State → Prop} (hsys : ∀ (u : State) x, P u → P (u.withSys x))
    (htake : ∀ u q, P u → P (State.take u q)) (qs : List Request) {s : State} (h : P s) : P (s.takeFrom qs) := by
  induction qs generalizing s with
  | nil => exact h
  | cons q qs ih =>
    unfold State.takeFrom
    split
    · exact ih (htake _ q (hsys _ _ h))
    · exact h

theorem waiterLaw_takePresented {s : State} (h : WaiterLaw s) : WaiterLaw s.takePresented :=
  takeFrom_keeps (P := WaiterLaw) (fun _ _ h => h) (fun u q h k => ((taken_take u q).queues k).waits (h k)) _ h

theorem popHeadLaw_takePresented {s : State} (h : PopHeadLaw s) : PopHeadLaw s.takePresented :=
  takeFrom_keeps (P := PopHeadLaw) (fun _ _ h => h) (fun u q h k => ((taken_take u q).queues k).popHead (h k)) _ h

theorem headLaw_takePresented {s : State} (h : HeadLaw s) : HeadLaw s.takePresented :=
  takeFrom_keeps (P := HeadLaw) (fun _ _ h => h) (fun u q h => (taken_take u q).headLaw h) _ h

/-- The end of a command keeps both head laws. -/
theorem heads_finish {s : State} (hp : PopHeadLaw s) (hh : HeadLaw s) : HeadLaw s.finish ∧ PopHeadLaw s.finish := by
  unfold State.finish
  split
  · exact ⟨headLaw_takePresented (s := s.completeSoftReset) hh, popHeadLaw_takePresented (s := s.completeSoftReset) hp⟩
  · split
    · exact ⟨hh, hp⟩
    · exact ⟨headLaw_takePresented hh, popHeadLaw_takePresented hp⟩

end Sys2Proof.Machine.Laws

namespace Sys2Proof.Machine.Laws

open Sys2Proof Sys2Proof.Machine

/-! ### Re-examination of a Pop Waiter list (R80) -/

/-- What re-examination does to a queue: waiters leave the front of its Pop Waiter list, and each grant moves read and adds a pop
entry; nothing else changes but the notice. -/
inductive PopsGranted (x : Queue) : Queue → Prop
  | mk (gone ws : List Waiter) (p : Position) (new : List PopEntry) (armed : Bool) : x.popWaiters = gone ++ ws →
      (new = [] → p = x.read) → PopsGranted x
        { x with read := p, popEntries := x.popEntries ++ new, noticeArmed := armed, popWaiters := ws }

theorem PopsGranted.of_waiters {x : Queue} {gone ws : List Waiter} (h : x.popWaiters = gone ++ ws) :
    PopsGranted x { x with popWaiters := ws } := by
  have := PopsGranted.mk (x := x) gone ws x.read [] x.noticeArmed h (fun _ => rfl)
  rwa [List.append_nil] at this

theorem PopsGranted.trans {x y z : Queue} (h : PopsGranted x y) (k : PopsGranted y z) : PopsGranted x z := by
  obtain ⟨gone, ws, p, new, armed, hw, hp⟩ := h
  obtain ⟨gone', ws', p', new', armed', hw', hp'⟩ := k
  have hwaiters : x.popWaiters = (gone ++ gone') ++ ws' := by
    rw [hw, List.append_assoc]
    exact congrArg _ hw'
  have hz := PopsGranted.mk (x := x) (gone ++ gone') ws' p' (new ++ new') armed' hwaiters (fun hnil =>
    (hp' (List.append_eq_nil_iff.1 hnil).2).trans (hp (List.append_eq_nil_iff.1 hnil).1))
  rwa [← List.append_assoc] at hz

theorem PopsGranted.state {x y : Queue} (h : PopsGranted x y) : y.state = x.state := by
  cases h
  rfl

theorem PopsGranted.pushWaiters {x y : Queue} (h : PopsGranted x y) : y.pushWaiters = x.pushWaiters := by
  cases h
  rfl

/-- What the re-examination of the Pop Waiter list of queue q does: it serves waiters of that queue, and leaves the other queues,
the Reservation Table, the requests at the port, the link, the command queue and the arbiter's mark. -/
structure PopsServed (q : QueueId) (s t : State) : Prop where
  only         : GrantsOnly s t
  reservations : t.reservations = s.reservations
  others       : ∀ p, p ≠ q → t.queue p = s.queue p
  queue        : PopsGranted (s.queue q) (t.queue q)

theorem PopsServed.refl (q : QueueId) (s : State) : PopsServed q s s :=
  ⟨⟨rfl, rfl, rfl, rfl⟩, rfl, fun _ _ => rfl, .of_waiters (gone := []) rfl⟩

theorem PopsServed.trans {q : QueueId} {s t u : State} (h : PopsServed q s t) (k : PopsServed q t u) : PopsServed q s u :=
  ⟨h.only.trans k.only, k.reservations.trans h.reservations, fun p hp => (k.others p hp).trans (h.others p hp),
    h.queue.trans k.queue⟩

theorem popsServed_grant {s : State} {q : QueueId} {w : Waiter} {ws : List Waiter} (h : (s.queue q).popWaiters = w :: ws) :
    PopsServed q s ((s.setWaiters q .pop ws).grantPop q w.requester w.tag w.length) := by
  refine ⟨⟨rfl, rfl, rfl, rfl⟩, rfl, fun p hp => ?_, ?_⟩
  · rw [grantPop_queue_other _ _ _ _ hp, setWaiters_queue, if_neg hp]
  · obtain ⟨e, armed, hg⟩ := grantPop_queue_same (s.setWaiters q .pop ws) q w.requester w.tag w.length
    rw [hg, setWaiters_queue_same]
    exact .mk [w] ws _ [e] armed h (fun hnil => absurd hnil (List.cons_ne_nil _ _))

theorem popsServed_decline {s : State} {q : QueueId} {w : Waiter} {ws : List Waiter} (h : (s.queue q).popWaiters = w :: ws)
    (reason : Reason) :
    PopsServed q s ((s.setWaiters q .pop ws).declineQueue q w.requester w.tag reason) := by
  have ha := answersOnly_declineQueue (s.setWaiters q .pop ws) q w.requester w.tag reason
  refine ⟨⟨ha.arrivals, ha.link, ha.arbiterDue, ha.pending⟩, ha.reservations, fun p hp => ?_, ?_⟩
  · rw [ha.queue, setWaiters_queue, if_neg hp]
  · rw [ha.queue, setWaiters_queue_same]
    exact .of_waiters (gone := [w]) h

/-- The head of the Pop Waiter list of queue q stays: it can be neither granted nor answered (R80). -/
def popHeadMustStay (s : State) (q : QueueId) : Prop :=
  ∀ w ws, (s.queue q).popWaiters = w :: ws → s.popFits q w.length = false ∧ s.drainedFor q w.length = false

theorem reexaminePopFrom_spec {q : QueueId} (ws : List Waiter) {s : State} (hws : (s.queue q).popWaiters = ws) :
    PopsServed q s (s.reexaminePopFrom q ws) ∧ popHeadMustStay (s.reexaminePopFrom q ws) q := by
  induction ws generalizing s with
  | nil => exact ⟨.refl q s, fun _ _ hw => by rw [State.reexaminePopFrom, hws] at hw; cases hw⟩
  | cons w ws ih =>
    rw [State.reexaminePopFrom]
    split
    · have hserve := popsServed_grant hws
      obtain ⟨hrest, hstay⟩ := ih (s := (s.setWaiters q .pop ws).grantPop q w.requester w.tag w.length)
        (by rw [grantPop_popWaiters, setWaiters_queue_same]; rfl)
      exact ⟨hserve.trans hrest, hstay⟩
    next hfit =>
      split
      · have hserve := popsServed_decline hws .drained
        obtain ⟨hrest, hstay⟩ := ih (s := (s.setWaiters q .pop ws).declineQueue q w.requester w.tag .drained)
          (by rw [(answersOnly_declineQueue _ _ _ _ _).queue, setWaiters_queue_same]; rfl)
        exact ⟨hserve.trans hrest, hstay⟩
      next hdrained =>
        refine ⟨.refl q s, fun v vs hv => ?_⟩
        rw [hws] at hv
        rw [← (List.cons.inj hv).1]
        exact ⟨Bool.not_eq_true _ ▸ hfit, Bool.not_eq_true _ ▸ hdrained⟩

theorem popsServed_reexaminePop (s : State) (q : QueueId) : PopsServed q s (s.reexaminePop q) := by
  by_cases h : (s.queue q).state = .running ∨ (s.queue q).state = .draining
  · rw [reexaminePop_active h]
    exact (reexaminePopFrom_spec _ rfl).1
  · rw [reexaminePop_inactive h]
    exact .refl q s

theorem reexaminePop_stops {s : State} {q : QueueId} (h : (s.queue q).state = .running ∨ (s.queue q).state = .draining) :
    popHeadMustStay (s.reexaminePop q) q := by
  rw [reexaminePop_active h]
  exact (reexaminePopFrom_spec _ rfl).2

theorem drainComplete_iff (s : State) (q : QueueId) : s.drainComplete q = true ↔ (s.queue q).state = .draining ∧
    s.ownsNone q = true ∧ (s.queue q).popEntries = [] ∧ (s.queue q).visible = 0 := by
  simp [State.drainComplete, State.quiet, and_assoc]

theorem stopComplete_iff (s : State) (q : QueueId) : s.stopComplete q = true ↔ (s.queue q).state = .stopping ∧
    s.ownsNone q = true ∧ (s.queue q).popEntries = [] := by
  simp [State.stopComplete, State.quiet]

theorem drainedFor_iff (s : State) (q : QueueId) (L : BurstLength) : s.drainedFor q L = true ↔
    (s.queue q).visible < L.val ∧ (s.queue q).state = .draining ∧ s.ownsNone q = true := by
  simp [State.drainedFor, and_assoc]

/-- A queue that meets the drain-completion condition has answered every pop that waited (R80, R89). -/
theorem no_popWaiter_of_drainComplete {s : State} {q : QueueId} (h : popHeadMustStay s q) (hd : s.drainComplete q = true) :
    (s.queue q).popWaiters = [] := by
  obtain ⟨hs, ho, -, hv⟩ := (drainComplete_iff s q).1 hd
  cases hw : (s.queue q).popWaiters with
  | nil => rfl
  | cons w ws =>
    have hdrained := (drainedFor_iff s q w.length).2 ⟨by rw [hv]; exact w.length.property.1, hs, ho⟩
    rw [(h w ws hw).2] at hdrained
    cases hdrained

/-! ### The waiting laws through the shared operations -/

theorem PushesGranted.waits {x y : Queue} (h : PushesGranted x y) (k : Waits x) : Waits y := by
  obtain ⟨gone, ws, p, n, hw⟩ := h
  exact ⟨fun hne => k.1 (fun hnil => hne (List.append_eq_nil_iff.1 (hw.symm.trans hnil)).2), k.2⟩

theorem PushesGranted.popHead {x y : Queue} (h : PushesGranted x y) (k : PopHeadStays x) : PopHeadStays y := by
  obtain ⟨gone, ws, p, n, hw⟩ := h
  exact k

theorem PopsGranted.waits {x y : Queue} (h : PopsGranted x y) (k : Waits x) : Waits y := by
  obtain ⟨gone, ws, p, new, armed, hw, -⟩ := h
  exact ⟨k.1, fun hne => k.2 (fun hnil => hne (List.append_eq_nil_iff.1 (hw.symm.trans hnil)).2)⟩

theorem PopsGranted.pushHead {x y : Queue} (h : PopsGranted x y) (k : PushHeadStays x) : PushHeadStays y := by
  obtain ⟨gone, ws, p, new, armed, hw, -⟩ := h
  exact k

theorem Granted.waiterLaw {s t : State} (h : Granted s t) (k : WaiterLaw s) : WaiterLaw t :=
  fun q => (h.queues q).waits (k q)

theorem Granted.popHeadLaw {s t : State} (h : Granted s t) (k : PopHeadLaw s) : PopHeadLaw t :=
  fun q => (h.queues q).popHead (k q)

theorem headLaw_arbitrate (s : State) : HeadLaw s.arbitrate :=
  fun _ hl => (arbitrate_stops s).resolve_left (Nat.not_le_of_lt hl)

/-- Behind the freeing of an entry no eligible head is left while an entry is free, unless the arbiter's run is put off. -/
theorem headLaw_entryFreed (s : State) : HeadLaw s.entryFreed := by
  obtain ⟨hw, h⟩ | ⟨-, h | h | ⟨-, h⟩ | ⟨-, h⟩⟩ := entryFreed_cases s
  · rw [h]
    exact fun _ _ q => eligibleHead_of_no_waiter ((noPushWaiter_iff s).1 hw q)
  · rw [h]
    exact headLaw_arbitrate _
  · rw [h]
    exact headLaw_arbitrate _
  · rw [h]
    exact headLaw_arbitrate _
  · rw [h]
    exact fun hdue => absurd hdue (by simp)

theorem settled_entryFreed {s : State} (hw : WaiterLaw s) (hp : PopHeadLaw s) : Settled s.entryFreed := by
  have harb : ∀ u : State, WaiterLaw u → PopHeadLaw u → WaiterLaw u.arbitrate ∧ PopHeadLaw u.arbitrate :=
    fun u ku kp => ⟨(granted_arbitrate u).waiterLaw ku, (granted_arbitrate u).popHeadLaw kp⟩
  have hkeep : WaiterLaw s.entryFreed ∧ PopHeadLaw s.entryFreed := by
    obtain ⟨-, h⟩ | ⟨-, h | h | ⟨-, h⟩ | ⟨-, h⟩⟩ := entryFreed_cases s
    · rw [h]
      exact ⟨hw, hp⟩
    · rw [h]
      exact harb s hw hp
    · rw [h]
      exact harb s.useFree hw hp
    · rw [h]
      exact harb _ (waiterLaw_takePresented (s := s.useFree) hw) (popHeadLaw_takePresented (s := s.useFree) hp)
    · rw [h]
      exact ⟨hw, hp⟩
  exact ⟨hkeep.1, hkeep.2, headLaw_entryFreed s⟩

/-- Re-examination of the Push Waiter list of queue q leaves no head that fits, if the other queues had none. -/
theorem headLaw_reexaminePush {s : State} {q : QueueId} (h : s.arbiterDue = false → s.reservations.length < 48 →
    ∀ p, p ≠ q → s.eligibleHead p = none) : HeadLaw (s.reexaminePush q) := by
  obtain ⟨honly, ⟨new, hnew, -⟩, -⟩ := granted_reexaminePush s q
  intro hdue hl p
  have hlen : s.reservations.length < 48 := by
    rw [hnew, List.length_append] at hl
    omega
  by_cases hp : p = q
  · exact hp ▸ (reexaminePush_stops s q).resolve_left (Nat.not_le_of_lt hl)
  · rw [eligibleHead_congr (reexaminePush_queue_other s hp)]
    exact h (honly.arbiterDue ▸ hdue) hlen p hp

/-- Re-examination of the Pop Waiter list of queue q leaves no pop head of q that could be granted (R80), and no push head that
could. -/
theorem laws_reexaminePop {s : State} {q : QueueId} (hw : WaiterLaw s) (hp : ∀ p, p ≠ q → PopHeadStays (s.queue p)) :
    WaiterLaw (s.reexaminePop q) ∧ PopHeadLaw (s.reexaminePop q) ∧ (HeadLaw s → HeadLaw (s.reexaminePop q)) := by
  obtain ⟨honly, hres, hothers, hqueue⟩ := popsServed_reexaminePop s q
  have hhead : PopHeadStays ((s.reexaminePop q).queue q) := by
    by_cases hs : (s.queue q).state = .running ∨ (s.queue q).state = .draining
    · intro w ws hws
      have hfit := (reexaminePop_stops hs w ws hws).1
      rw [← Bool.not_eq_true, popFits_iff, not_and_or, not_le, not_lt] at hfit
      exact hfit
    · rw [reexaminePop_inactive hs]
      obtain ⟨hr, hd⟩ := not_or.1 hs
      exact .of_no_waiter (Waits.no_waiter (hw q) hr hd).2
  exact ⟨forall_queue_of_other (P := Waits) hothers (fun p _ => hw p) (hqueue.waits (hw q)),
    forall_queue_of_other hothers hp hhead,
    fun h => headLaw_of_other h hothers (by rw [hres]) honly.arbiterDue hqueue.pushHead⟩

/-- An event that changes one queue, frees no entry, and keeps the waiting laws of that queue. -/
theorem settled_of_other {s t : State} {q : QueueId} (h : Settled s) (hq : ∀ p, p ≠ q → t.queue p = s.queue p)
    (hl : s.reservations.length ≤ t.reservations.length) (hd : t.arbiterDue = s.arbiterDue) (hw : Waits (t.queue q))
    (hv : PopHeadStays (t.queue q)) (hx : PushHeadStays (s.queue q) → PushHeadStays (t.queue q)) : Settled t :=
  ⟨forall_queue_of_other (P := Waits) hq (fun p _ => h.waits p) hw,
    forall_queue_of_other (P := PopHeadStays) hq (fun p _ => h.popHeads p) hv, headLaw_of_other h.heads hq hl hd hx⟩

/-- An event that leaves one queue without waiters, and frees no entry. -/
theorem settled_of_emptied {s t : State} {q : QueueId} (h : Settled s) (hq : ∀ p, p ≠ q → t.queue p = s.queue p)
    (hl : s.reservations.length ≤ t.reservations.length) (hd : t.arbiterDue = s.arbiterDue)
    (hp : (t.queue q).pushWaiters = []) (hv : (t.queue q).popWaiters = []) : Settled t :=
  settled_of_other h hq hl hd (.of_no_waiter hp hv) (.of_no_waiter hv) (fun _ => .of_no_waiter hp)

/-- Re-examination of the Pop Waiter list of queue q, and the drain test behind it (R80, R93). -/
theorem laws_reexaminePop_testDrain {s : State} {q : QueueId} (hw : WaiterLaw s)
    (hp : ∀ p, p ≠ q → PopHeadStays (s.queue p)) : WaiterLaw ((s.reexaminePop q).testDrain q) ∧
      PopHeadLaw ((s.reexaminePop q).testDrain q) ∧ (HeadLaw s → HeadLaw ((s.reexaminePop q).testDrain q)) := by
  obtain ⟨hwaits, hheads, hpush⟩ := laws_reexaminePop hw hp
  obtain ⟨-, h⟩ | ⟨hd, h⟩ := testDrain_cases (s.reexaminePop q) q
  · rw [h]
    exact ⟨hwaits, hheads, hpush⟩
  · have hdrain := ((drainComplete_iff _ _).1 hd).1
    have hnone := no_popWaiter_of_drainComplete
      (reexaminePop_stops (.inr ((popsServed_reexaminePop s q).queue.state ▸ hdrain))) hd
    have hpushers := Waits.no_pusher (hwaits q) (by rw [hdrain]; decide)
    have hother : ∀ p, p ≠ q → ((s.reexaminePop q).setQueue q ((s.reexaminePop q).queue q).arrived).queue p =
        (s.reexaminePop q).queue p := fun p hp => setQueue_queue_other _ hp _
    rw [h]
    refine ⟨forall_queue_of_other (P := Waits) hother (fun p _ => hwaits p) ?_,
      forall_queue_of_other (P := PopHeadStays) hother (fun p _ => hheads p) ?_,
      fun k => headLaw_of_other (hpush k) hother le_rfl rfl ?_⟩
    · rw [setQueue_queue_same]
      exact .of_no_waiter hpushers hnone
    · rw [setQueue_queue_same]
      exact .of_no_waiter hnone
    · rw [setQueue_queue_same]
      exact fun _ => .of_no_waiter hpushers

theorem settled_reexaminePop_testDrain {s : State} (h : Settled s) (q : QueueId) :
    Settled ((s.reexaminePop q).testDrain q) := by
  obtain ⟨hw, hp, hh⟩ := laws_reexaminePop_testDrain h.waits (q := q) (fun p _ => h.popHeads p)
  exact ⟨hw, hp, hh h.heads⟩

/-- The stop test brings a queue without waiters to STOPPED. -/
theorem settled_testStop {s : State} (h : Settled s) (q : QueueId) : Settled (s.testStop q) := by
  obtain ⟨-, he⟩ | ⟨hd, he⟩ := testStop_cases s q
  · rwa [he]
  · have hstop := ((stopComplete_iff _ _).1 hd).1
    obtain ⟨hp, hv⟩ := Waits.no_waiter (h.waits q) (by rw [hstop]; decide) (by rw [hstop]; decide)
    rw [he]
    refine settled_of_emptied h (q := q) (fun p hne => setQueue_queue_other _ hne _) le_rfl rfl ?_ ?_
    · rw [setQueue_queue_same]
      exact hp
    · rw [setQueue_queue_same]
      exact hv

end Sys2Proof.Machine.Laws

namespace Sys2Proof.Machine.Laws

open Sys2Proof Sys2Proof.Machine

/-! ### Notices, faults and commit -/

/-- The notice check touches the notice alone. -/
theorem noticeCheck_queue_same (s : State) (q : QueueId) : ∃ armed ns,
    (s.noticeCheck q).queue q = { s.queue q with noticeArmed := armed, notices := ns } := by
  obtain ⟨-, h⟩ | ⟨-, h⟩ := noticeCheck_cases s q
  · exact ⟨(s.queue q).noticeArmed, (s.queue q).notices, by rw [h]⟩
  · exact ⟨false, _, by rw [h, present_queue, setQueue_queue_same]⟩

theorem noticeCheck_queue_other (s : State) {p q : QueueId} (h : p ≠ q) : (s.noticeCheck q).queue p = s.queue p := by
  obtain ⟨-, he⟩ | ⟨-, he⟩ := noticeCheck_cases s q
  · rw [he]
  · rw [he, present_queue, setQueue_queue_other _ h]

theorem noticeCheck_frame (s : State) (q : QueueId) :
    GrantsOnly s (s.noticeCheck q) ∧ (s.noticeCheck q).reservations = s.reservations := by
  obtain ⟨-, h⟩ | ⟨-, h⟩ := noticeCheck_cases s q <;> rw [h] <;> exact ⟨⟨rfl, rfl, rfl, rfl⟩, rfl⟩

theorem settled_noticeCheck {s : State} (h : Settled s) (q : QueueId) : Settled (s.noticeCheck q) := by
  obtain ⟨armed, ns, hq⟩ := noticeCheck_queue_same s q
  obtain ⟨honly, hres⟩ := noticeCheck_frame s q
  exact settled_of_other h (fun p hp => noticeCheck_queue_other s hp) (by rw [hres]) honly.arbiterDue
    (hq ▸ h.waits q) (hq ▸ h.popHeads q) (fun k => hq ▸ k)

theorem settled_faultTrigger {s : State} (h : Settled s) (q : QueueId) (reason : FaultReason) :
    Settled (s.faultTrigger q reason) := by
  obtain ⟨-, he⟩ | ⟨-, he⟩ := faultTrigger_cases s q reason
  · rw [he]
    refine settled_of_emptied h (q := q) (fun p hp => enterFaulted_queue_other s reason hp)
      (by rw [enterFaulted_reservations]) ?_ (by rw [enterFaulted_queue_same]) (by rw [enterFaulted_queue_same])
    rw [State.enterFaulted, releaseAll_arbiterDue, appendLog_arbiterDue, modifyQueue_arbiterDue]
  · rwa [he]

/-- A commit advance moves the commit position of its queue, and frees entries. -/
theorem passClosed_frame (q : QueueId) (n : Nat) (s : State) : (∃ c, (s.passClosed q n).queue q = { s.queue q with commit := c }) ∧
    (∀ p, p ≠ q → (s.passClosed q n).queue p = s.queue p) ∧ GrantsOnly s (s.passClosed q n) ∧
    (s.passClosed q n).reservations.Sublist s.reservations := by
  induction n generalizing s with
  | zero => exact ⟨⟨(s.queue q).commit, rfl⟩, fun _ _ => rfl, ⟨rfl, rfl, rfl, rfl⟩, List.Sublist.refl _⟩
  | succ n ih =>
    have hstay : (∃ c, s.queue q = { s.queue q with commit := c }) ∧ (∀ p, p ≠ q → s.queue p = s.queue p) ∧
        GrantsOnly s s ∧ s.reservations.Sublist s.reservations :=
      ⟨⟨(s.queue q).commit, rfl⟩, fun _ _ => rfl, ⟨rfl, rfl, rfl, rfl⟩, List.Sublist.refl _⟩
    unfold State.passClosed
    split
    · exact hstay
    next e _ =>
      split
      · obtain ⟨⟨c, hc⟩, ho, hg, hs⟩ := ih ((s.freeEntry e).modifyQueue q (fun x =>
          { x with commit := advance e.start (recordWords e.words) }))
        refine ⟨⟨c, ?_⟩, fun p hp => ?_, ⟨hg.arrivals, hg.link, hg.arbiterDue, hg.pending⟩,
          hs.trans List.filter_sublist⟩
        · rw [hc, modifyQueue_queue_same]
          rfl
        · rw [ho p hp, modifyQueue_queue_other _ hp, freeEntry_queue]
      · exact hstay

theorem settled_commitAttempt {s : State} (h : Settled s) (q : QueueId) : Settled (s.commitAttempt q) := by
  unfold State.commitAttempt
  split
  · obtain ⟨⟨c, hc⟩, ho, -⟩ := passClosed_frame q s.reservations.length s
    obtain ⟨armed, ns, hn⟩ := noticeCheck_queue_same (s.passClosed q s.reservations.length) q
    have hothers : ∀ p, p ≠ q → ((s.passClosed q s.reservations.length).noticeCheck q).queue p = s.queue p :=
      fun p hp => (noticeCheck_queue_other _ hp).trans (ho p hp)
    obtain ⟨hw, hp, -⟩ := laws_reexaminePop_testDrain (s := (s.passClosed q s.reservations.length).noticeCheck q) (q := q)
      (forall_queue_of_other (P := Waits) hothers (fun p _ => h.waits p) (by rw [hn, hc]; exact h.waits q))
      (fun p hp => hothers p hp ▸ h.popHeads p)
    exact settled_entryFreed hw hp
  · exact h

theorem settled_lastEntryGone {s : State} (h : Settled s) (q : QueueId) : Settled (s.lastEntryGone q) := by
  unfold State.lastEntryGone
  split
  · exact settled_reexaminePop_testDrain h q
  · exact h

/-! ### Resolution -/

theorem settled_reexaminePush {s : State} (h : Settled s) (q : QueueId) : Settled (s.reexaminePush q) :=
  ⟨(granted_reexaminePush s q).waiterLaw h.waits, (granted_reexaminePush s q).popHeadLaw h.popHeads,
    headLaw_reexaminePush (fun hd hl p _ => h.heads hd hl p)⟩

/-- Whichever order is taken, the grants after a rewind leave no head that fits while an entry is free (R45, R79). -/
theorem settled_rewindGrants {s : State} (hw : WaiterLaw s) (hp : PopHeadLaw s) (q : QueueId) : Settled (s.rewindGrants q) := by
  unfold State.rewindGrants
  split
  next hn => exact ⟨hw, hp, fun _ _ k => eligibleHead_of_no_waiter ((noPushWaiter_iff s).1 hn k)⟩
  next =>
    split
    · exact settled_reexaminePush (settled_entryFreed (s := s.useFree) hw hp) q
    · exact settled_entryFreed ((granted_reexaminePush s.useFree q).waiterLaw hw)
        ((granted_reexaminePush s.useFree q).popHeadLaw hp)

theorem settled_rewind {s : State} (h : Settled s) (e : Entry) : Settled (s.rewind e) := by
  have hother : ∀ p, p ≠ e.queue → ((s.freeEntry e).modifyQueue e.queue (fun x =>
      { x with reserve := e.start, nextSequence := e.sequence })).queue p = s.queue p :=
    fun p hp => modifyQueue_queue_other _ hp _
  refine settled_lastEntryGone (settled_commitAttempt (settled_rewindGrants ?_ ?_ _) _) _
  · refine forall_queue_of_other (P := Waits) hother (fun p _ => h.waits p) ?_
    rw [modifyQueue_queue_same]
    exact h.waits e.queue
  · refine forall_queue_of_other (P := PopHeadStays) hother (fun p _ => h.popHeads p) ?_
    rw [modifyQueue_queue_same]
    exact h.popHeads e.queue

theorem settled_setEntry {s : State} (h : Settled s) (e : Entry) : Settled (s.setEntry e) :=
  h.of_same rfl (by rw [setEntry_reservations_length]) rfl

theorem settled_issueFiller {s : State} (h : Settled s) (e : Entry) : Settled (s.issueFiller e) :=
  (settled_setEntry h e.asFiller).of_same rfl le_rfl rfl

/-- An entry freed in STOPPING, the arbiter behind it, and the stop test (R36, R96). -/
theorem settled_freed_testStop {s : State} (h : Settled s) (e : Entry) (q : QueueId) :
    Settled (((s.freeEntry e).entryFreed).testStop q) :=
  settled_testStop (settled_entryFreed (s := s.freeEntry e) h.waits h.popHeads) q

theorem settled_resolve {s : State} (h : Settled s) (e : Entry) : Settled (s.resolve e) := by
  have hanswered := (answersOnly_decline s e.requester e.tag e.abandonedLog).settled h
  unfold State.resolve
  dsimp only
  split
  · exact settled_freed_testStop hanswered e _
  · split
    · exact settled_rewind hanswered e
    · exact settled_issueFiller hanswered e

theorem settled_settleEntry {s : State} (h : Settled s) (e : Entry) : Settled (s.settleEntry e) := by
  unfold State.settleEntry
  split
  · exact settled_resolve (settled_setEntry h e) e
  · exact settled_setEntry h e

/-! ### Beats and completions of record writes -/

theorem settled_handBeat {s : State} (h : Settled s) (e : Entry) (b : Beat) : Settled (s.handBeat e b) := by
  unfold State.handBeat
  split
  · split
    · exact settled_settleEntry h _
    · dsimp only
      split
      · exact (settled_setEntry h _).of_same rfl le_rfl rfl
      · exact settled_setEntry h _
  · exact settled_settleEntry h _
  · exact h

theorem settled_payloadCompletes {s : State} (h : Settled s) (e : Entry) (status : MemStatus) :
    Settled (s.payloadCompletes e status) := by
  have hafter : ∀ e, Settled (s.afterPayload e) := by
    intro e
    unfold State.afterPayload
    split
    · split
      · exact (settled_setEntry h _).of_same rfl le_rfl rfl
      · exact settled_settleEntry h _
    · exact settled_setEntry h e
  unfold State.payloadCompletes
  dsimp only
  split
  · exact hafter _
  · exact hafter _
  · exact settled_settleEntry h _
  · exact h

theorem settled_headerCompletes {s : State} (h : Settled s) (e : Entry) (status : MemStatus) :
    Settled (s.headerCompletes e status) := by
  unfold State.headerCompletes
  split
  · unfold State.headerOk
    split
    · exact settled_freed_testStop ((answersOnly_answerStored s e).settled h) e _
    · exact settled_commitAttempt ((answersOnly_answerStored _ e).settled (settled_setEntry h _)) _
  · unfold State.headerError
    split
    · exact settled_freed_testStop ((answersOnly_declineHeader s e).settled h) e _
    · exact settled_faultTrigger ((answersOnly_declineHeader _ e).settled (settled_setEntry h _)) _ _
  · exact h

/-! ### Pops, notices and routing -/

theorem settled_removePop {s : State} (h : Settled s) (q : QueueId) (e : PopEntry) : Settled (s.removePop q e) := by
  have hother : ∀ p, p ≠ q → (s.modifyQueue q (fun x => x.removePop e)).queue p = s.queue p :=
    fun p hp => modifyQueue_queue_other _ hp _
  have hwaits : WaiterLaw (s.modifyQueue q (fun x => x.removePop e)) := by
    refine forall_queue_of_other (P := Waits) hother (fun p _ => h.waits p) ?_
    rw [modifyQueue_queue_same]
    exact h.waits q
  have hpush : ∃ u, u = (if ((s.modifyQueue q (fun x => x.removePop e)).queue q).release = (s.queue q).release then
      s.modifyQueue q (fun x => x.removePop e) else (s.modifyQueue q (fun x => x.removePop e)).reexaminePush q) ∧
      WaiterLaw u ∧ HeadLaw u ∧ ∀ p, p ≠ q → PopHeadStays (u.queue p) := by
    refine ⟨_, rfl, ?_⟩
    split
    next hrel =>
      refine ⟨hwaits, headLaw_of_other h.heads hother le_rfl rfl (fun k w ws hw => ?_),
        fun p hp => hother p hp ▸ h.popHeads p⟩
      have hk := k w ws (by rwa [modifyQueue_queue_same] at hw)
      unfold Queue.free at hk ⊢
      rw [hrel, modifyQueue_queue_same]
      exact hk
    next =>
      refine ⟨(granted_reexaminePush _ q).waiterLaw hwaits, headLaw_reexaminePush (fun hd hl p hp => ?_), fun p hp => ?_⟩
      · rw [eligibleHead_congr (hother p hp)]
        exact h.heads hd hl p
      · rw [reexaminePush_queue_other _ hp, hother p hp]
        exact h.popHeads p
  obtain ⟨u, hu, hw, hh, hp⟩ := hpush
  obtain ⟨hw', hp', hh'⟩ := laws_reexaminePop_testDrain hw hp
  have hfinal : s.removePop q e = ((u.reexaminePop q).testDrain q).testStop q := by rw [hu]; rfl
  rw [hfinal]
  exact settled_testStop ⟨hw', hp', hh' hh⟩ q

theorem settled_afterRead {s : State} (h : Settled s) (q : QueueId) (e : PopEntry) : Settled (s.afterRead q e) := by
  have hset : Settled (s.setPopEntry q e) := by
    refine settled_of_other h (q := q) (fun p hp => modifyQueue_queue_other _ hp _) le_rfl rfl ?_ ?_ ?_
    · rw [State.setPopEntry, modifyQueue_queue_same]
      exact h.waits q
    · rw [State.setPopEntry, modifyQueue_queue_same]
      intro w ws hw
      simp only [List.length_map]
      exact h.popHeads q w ws hw
    · rw [State.setPopEntry, modifyQueue_queue_same]
      exact id
  unfold State.afterRead
  split
  · unfold State.answerPop
    split
    · exact settled_removePop (settled_faultTrigger ((answersOnly_decline _ _ _ _).settled hset) _ _) _ _
    · exact settled_removePop ((answersOnly_answerOk _ _ _ _).settled hset) _ _
  · exact hset

theorem settled_noteMissing {s : State} (h : Settled s) (words : Nat) (data : List Word) :
    Settled (s.noteMissing words data) := by
  unfold State.noteMissing
  split
  · exact h.of_same rfl le_rfl rfl
  · exact h

theorem settled_route {s : State} (h : Settled s) (r : MemRequest) (status : MemStatus) (data : List Word) :
    Settled (s.route r status data) := by
  unfold State.route
  split
  · split
    · exact h
    · exact settled_headerCompletes h _ _
  · split
    · exact h
    · exact settled_payloadCompletes h _ _
  · split
    · exact h
    · unfold State.readCompletes
      split
      · exact settled_afterRead (settled_noteMissing h _ _) _ _
      · exact settled_afterRead h _ _
  · split
    · exact h
    · unfold State.passThroughCompletes
      split
      · exact (answersOnly_declineAddress _ _ _).settled h
      · split
        · exact (answersOnly_answerOk _ _ _ _).settled h
        · exact (answersOnly_answerOk _ _ _ _).settled (settled_noteMissing h _ _)
  next q _ =>
    have herase : Settled (s.modifyQueue q (fun x => { x with notices := x.notices.erase r.noticeRecord })) := by
      refine settled_of_other h (q := q) (fun p hp => modifyQueue_queue_other _ hp _) le_rfl rfl ?_ ?_ ?_ <;>
        rw [modifyQueue_queue_same]
      · exact h.waits q
      · exact h.popHeads q
      · exact id
    unfold State.noticeCompletes
    dsimp only
    split
    · exact settled_noticeCheck herase q
    · exact settled_noticeCheck ((answersOnly_appendLog _ _).settled herase) q

end Sys2Proof.Machine.Laws

namespace Sys2Proof.Machine.Laws

open Sys2Proof Sys2Proof.Machine

/-! ### Beats and expiries -/

theorem settled_offerBeat {s : State} (h : Settled s) (r : Requester) (t : Tag) (b : Beat) :
    Settled (s.offerBeat r t b) := by
  have hset : ∀ x, Settled (s.setTransaction x) := fun x => h.of_same rfl le_rfl rfl
  unfold State.offerBeat
  split
  · exact h
  · unfold State.takeBeat
    split
    · dsimp only
      split
      · exact h
      · exact h
      · unfold State.gatherBeat
        dsimp only
        split
        · split
          · exact h.of_same rfl le_rfl rfl
          · exact hset _
        · exact hset _
      · unfold State.handOver
        split
        · exact hset _
        · exact settled_handBeat (hset _) _ _
      · unfold State.dropBeat
        split
        · split
          · exact h.of_same rfl le_rfl rfl
          · exact hset _
        · exact hset _
    · exact h

/-- A held request is the first of its requester and tag in its list (R77). -/
theorem heldRequest_spec {s : State} {r : Requester} {t : Tag} {h : HeldRequest} (hh : s.heldRequest r t = some h) :
    ((s.queue h.queue).waiters h.side).find? (fun w => w.named r t) = some h.waiter := by
  rw [State.heldRequest, State.heldRequests, List.find?_flatMap] at hh
  obtain ⟨q, -, hq⟩ := List.exists_of_findSome?_eq_some hh
  rw [State.heldIn, List.find?_append, Option.or_eq_some_iff, List.find?_map, List.find?_map, Option.map_eq_some_iff,
    Option.map_eq_some_iff] at hq
  obtain ⟨w, hw, rfl⟩ | ⟨-, w, hw, rfl⟩ := hq
  · exact hw
  · exact hw

/-- When a waiter that is not the head leaves, the head stays the head. -/
theorem leave_keeps_head {l : List Waiter} {r : Requester} {t : Tag} {v : Waiter}
    (hfind : l.find? (fun w => w.named r t) = some v) {w : Waiter} {ws : List Waiter} (hl : l = w :: ws) (hne : w ≠ v) :
    ∃ us, l.filter (fun w => !w.named v.requester v.tag) = w :: us := by
  have hv : v.requester = r ∧ v.tag = t := by
    simpa [Waiter.named] using List.find?_some hfind
  rw [hl] at hfind ⊢
  cases hn : w.named r t with
  | true =>
    simp only [List.find?_cons, hn, Option.some.injEq] at hfind
    exact absurd hfind hne
  | false =>
    rw [hv.1, hv.2, List.filter_cons_of_pos (by rw [hn]; rfl)]
    exact ⟨_, rfl⟩

theorem isHead_iff (s : State) (h : HeldRequest) :
    s.isHead h = true ↔ ∃ ws, (s.queue h.queue).waiters h.side = h.waiter :: ws := by
  unfold State.isHead
  split
  next hn => simp [hn]
  next w ws hc => simp [hc]

theorem leave_queue_other (s : State) (h : HeldRequest) {p : QueueId} (hp : p ≠ h.queue) :
    (s.leave h).queue p = s.queue p := by
  rw [State.leave, withHold_queue, setWaiters_queue, if_neg hp]

theorem leave_queue_same (s : State) (h : HeldRequest) : (s.leave h).queue h.queue = (s.queue h.queue).withWaiters h.side
    (((s.queue h.queue).waiters h.side).filter (fun w => !w.named h.waiter.requester h.waiter.tag)) := by
  rw [State.leave, withHold_queue, setWaiters_queue_same]

/-- When a held request that is not the head leaves, the head of its list is the one that was. -/
theorem head_of_leave {s : State} {r : Requester} {t : Tag} {h : HeldRequest} (hh : s.heldRequest r t = some h)
    (hn : s.isHead h ≠ true) {w : Waiter} {ws : List Waiter}
    (hw : ((s.queue h.queue).waiters h.side).filter (fun w => !w.named h.waiter.requester h.waiter.tag) = w :: ws) :
    ∃ vs, (s.queue h.queue).waiters h.side = w :: vs := by
  cases hl : (s.queue h.queue).waiters h.side with
  | nil =>
    rw [hl] at hw
    cases hw
  | cons v vs =>
    have hne : v ≠ h.waiter := fun he => hn ((isHead_iff s h).2 ⟨vs, he ▸ hl⟩)
    obtain ⟨us, hus⟩ := leave_keeps_head (heldRequest_spec hh) hl hne
    exact ⟨vs, by rw [(List.cons.inj (hus.symm.trans hw)).1]⟩

/-- The expiry of a waiting push (R81): where the head leaves, the list is re-examined. -/
theorem settled_expireHeld_push {s : State} (k : Settled s) {r : Requester} {t : Tag} {h : HeldRequest}
    (hh : s.heldRequest r t = some h) (hside : h.side = .push) : Settled (s.expireHeld h) := by
  have hother : ∀ p, p ≠ h.queue → (s.leave h).queue p = s.queue p := fun p hp => leave_queue_other s h hp
  have hsame := leave_queue_same s h
  have hhead := fun hn w ws => head_of_leave hh hn (w := w) (ws := ws)
  have hanswer := answersOnly_retry (s.leave h) h.queue h.waiter.requester h.waiter.tag .timeout
  rw [hside] at hsame hhead
  have hwaits : WaiterLaw (s.leave h) := forall_queue_of_other (P := Waits) hother (fun p _ => k.waits p) (hsame ▸
    ⟨fun hne => (k.waits h.queue).1 (fun hnil => hne (by rw [Queue.waiters, hnil]; rfl)), (k.waits h.queue).2⟩)
  have hpops : PopHeadLaw (s.leave h) := forall_queue_of_other (P := PopHeadStays) hother (fun p _ => k.popHeads p)
    (hsame ▸ k.popHeads h.queue)
  unfold State.expireHeld
  dsimp only
  split
  · rw [hside]
    have hgrant := granted_reexaminePush ((s.leave h).retry h.queue h.waiter.requester h.waiter.tag .timeout) h.queue
    refine ⟨hgrant.waiterLaw (fun p => hanswer.queue p ▸ hwaits p), hgrant.popHeadLaw (fun p => hanswer.queue p ▸ hpops p),
      headLaw_reexaminePush (fun hd hl p hp => ?_)⟩
    rw [eligibleHead_congr ((hanswer.queue p).trans (hother p hp))]
    exact k.heads (hanswer.arbiterDue ▸ hd) (hanswer.reservations ▸ hl) p
  next hn =>
    refine hanswer.settled ⟨hwaits, hpops, headLaw_of_other k.heads hother le_rfl rfl (fun hk => ?_)⟩
    rw [hsame]
    intro w ws hw
    obtain ⟨vs, hv⟩ := hhead hn w ws hw
    exact hk w vs hv

/-- The expiry of a waiting pop (R81): where the head leaves, the list is re-examined. -/
theorem settled_expireHeld_pop {s : State} (k : Settled s) {r : Requester} {t : Tag} {h : HeldRequest}
    (hh : s.heldRequest r t = some h) (hside : h.side = .pop) : Settled (s.expireHeld h) := by
  have hother : ∀ p, p ≠ h.queue → (s.leave h).queue p = s.queue p := fun p hp => leave_queue_other s h hp
  have hsame := leave_queue_same s h
  have hhead := fun hn w ws => head_of_leave hh hn (w := w) (ws := ws)
  have hanswer := answersOnly_retry (s.leave h) h.queue h.waiter.requester h.waiter.tag .timeout
  rw [hside] at hsame hhead
  have hwaits : WaiterLaw (s.leave h) := forall_queue_of_other (P := Waits) hother (fun p _ => k.waits p) (hsame ▸
    ⟨(k.waits h.queue).1, fun hne => (k.waits h.queue).2 (fun hnil => hne (by rw [Queue.waiters, hnil]; rfl))⟩)
  have hpops : ∀ p, p ≠ h.queue → PopHeadStays ((s.leave h).queue p) := fun p hp => hother p hp ▸ k.popHeads p
  have hheads : HeadLaw (s.leave h) := headLaw_of_other k.heads hother le_rfl rfl (fun hk => hsame ▸ hk)
  unfold State.expireHeld
  dsimp only
  split
  · rw [hside]
    obtain ⟨hw, hp, hh⟩ := laws_reexaminePop
      (s := (s.leave h).retry h.queue h.waiter.requester h.waiter.tag .timeout) (q := h.queue)
      (fun p => hanswer.queue p ▸ hwaits p) (fun p hp => hanswer.queue p ▸ hpops p hp)
    exact ⟨hw, hp, hh (headLaw_of_same hheads hanswer.queues (by rw [hanswer.reservations]) hanswer.arbiterDue)⟩
  next hn =>
    refine hanswer.settled ⟨hwaits, forall_queue_of_other (P := PopHeadStays) hother (fun p _ => k.popHeads p) ?_, hheads⟩
    rw [hsame]
    intro w ws hw
    obtain ⟨vs, hv⟩ := hhead hn w ws hw
    exact k.popHeads h.queue w vs hv

theorem settled_expireHeld {s : State} (k : Settled s) {r : Requester} {t : Tag} {h : HeldRequest}
    (hh : s.heldRequest r t = some h) : Settled (s.expireHeld h) := by
  cases hside : h.side with
  | push => exact settled_expireHeld_push k hh hside
  | pop => exact settled_expireHeld_pop k hh hside

end Sys2Proof.Machine.Laws

namespace Sys2Proof.Machine.Laws

open Sys2Proof Sys2Proof.Machine

/-! ### Queue actions -/

theorem settled_drainQueue {s : State} (h : Settled s) (q : QueueId) : Settled (s.drainQueue q) := by
  have hreleased : Settled ((s.modifyQueue q (fun x => { x with state := .draining })).releaseList q .push .state) := by
    have hsame : ((s.modifyQueue q (fun x => { x with state := .draining })).releaseList q .push .state).queue q =
        { s.queue q with state := .draining, pushWaiters := [] } := by
      rw [releaseList_queue_same, modifyQueue_queue_same]
      rfl
    refine settled_of_other h (q := q) (fun p hp => ?_) (by rw [releaseList_reservations]; exact le_rfl)
      (answersOnly_declineWaiters _ _ _ _).arbiterDue (hsame ▸ ⟨fun hne => absurd rfl hne, fun _ => .inr rfl⟩)
      (hsame ▸ h.popHeads q) (fun _ => hsame ▸ .of_no_waiter rfl)
    rw [releaseList_queue_other _ _ _ hp, modifyQueue_queue_other _ hp]
  unfold State.drainQueue
  dsimp only
  split
  · exact settled_reexaminePop_testDrain hreleased q
  next hnone =>
    obtain ⟨-, he⟩ | ⟨hd, -⟩ := testDrain_cases
      ((s.modifyQueue q (fun x => { x with state := .draining })).releaseList q .push .state) q
    · rwa [he]
    · exact absurd ((drainComplete_iff _ _).1 hd).2.1 hnone

theorem resolveStopped_arbiterDue (es : List Entry) (s : State) :
    (es.foldl State.resolveStopped s).arbiterDue = s.arbiterDue := by
  induction es generalizing s with
  | nil => rfl
  | cons e es ih => exact (ih _).trans (answersOnly_decline s e.requester e.tag e.abandonedLog).arbiterDue

theorem stopActs_arbiterDue (s : State) (q : QueueId) : (s.stopActs q).arbiterDue = s.arbiterDue :=
  (resolveStopped_arbiterDue _ _).trans (releaseAll_arbiterDue (s.modifyQueue q Queue.stopping) q .state)

theorem settled_stopQueue {s : State} (h : Settled s) (q : QueueId) : Settled (s.stopQueue q) := by
  have hsame := stopActs_queue_same s q
  have hother : ∀ p, p ≠ q → (s.stopActs q).queue p = s.queue p := fun p hp => stopActs_queue_other s hp
  obtain ⟨-, he⟩ | ⟨hl, he⟩ := arbitrateIfFreed_cases s (s.stopActs q)
  · rw [State.stopQueue, he]
    refine settled_testStop (settled_entryFreed ?_ ?_) q
    · exact forall_queue_of_other (P := Waits) hother (fun p _ => h.waits p) (hsame ▸ .of_no_waiter rfl rfl)
    · exact forall_queue_of_other (P := PopHeadStays) hother (fun p _ => h.popHeads p) (hsame ▸ .of_no_waiter rfl)
  · rw [State.stopQueue, he]
    exact settled_testStop (settled_of_emptied h hother hl (stopActs_arbiterDue s q) (by rw [hsame]) (by rw [hsame])) q

/-- No word is visible in a flushed queue (R102). -/
theorem flushed_visible (x : Queue) : x.flushed.visible = 0 := by
  simp [Queue.visible, Queue.flushed, wordsBetween]

theorem settled_flushQueue {s : State} (h : Settled s) (q : QueueId) : Settled (s.flushQueue q) := by
  have hother : ∀ p, p ≠ q → (s.modifyQueue q Queue.flushed).queue p = s.queue p := fun p hp => modifyQueue_queue_other _ hp _
  have hwaits : WaiterLaw (s.modifyQueue q Queue.flushed) :=
    forall_queue_of_other (P := Waits) hother (fun p _ => h.waits p) (by rw [modifyQueue_queue_same]; exact h.waits q)
  have hpops : PopHeadLaw (s.modifyQueue q Queue.flushed) := by
    refine forall_queue_of_other (P := PopHeadStays) hother (fun p _ => h.popHeads p) (fun w _ _ => .inl ?_)
    rw [modifyQueue_queue_same, flushed_visible]
    exact w.length.property.1
  unfold State.flushQueue
  dsimp only
  refine settled_lastEntryGone ?_ q
  split
  · refine ⟨(granted_reexaminePush _ q).waiterLaw hwaits, (granted_reexaminePush _ q).popHeadLaw hpops,
      headLaw_reexaminePush (fun hd hl p hp => ?_)⟩
    rw [eligibleHead_congr (hother p hp)]
    exact h.heads hd hl p
  next he =>
    refine ⟨hwaits, hpops, headLaw_of_other h.heads hother le_rfl rfl (fun k w ws hw => ?_)⟩
    rw [modifyQueue_queue_same] at hw ⊢
    have hk := k w ws hw
    unfold Queue.free at hk ⊢
    simp only [Queue.flushed, he]
    exact hk

theorem settled_issueFillers {s : State} (h : Settled s) (es : List Entry) : Settled (es.foldl State.issueFiller s) := by
  induction es generalizing s with
  | nil => exact h
  | cons e es ih => exact ih (settled_issueFiller h e)

/-- A change of a queue that has neither RUNNING nor DRAINING as its state, and so no waiter. -/
theorem settled_modifyQueue_of_idle {s : State} (h : Settled s) {q : QueueId} (hr : (s.queue q).state ≠ .running)
    (hd : (s.queue q).state ≠ .draining) (f : Queue → Queue)
    (hf : (f (s.queue q)).pushWaiters = (s.queue q).pushWaiters ∧ (f (s.queue q)).popWaiters = (s.queue q).popWaiters) :
    Settled (s.modifyQueue q f) := by
  obtain ⟨hp, hv⟩ := Waits.no_waiter (h.waits q) hr hd
  refine settled_of_emptied h (q := q) (fun p hne => modifyQueue_queue_other _ hne _) le_rfl rfl ?_ ?_
  · rw [modifyQueue_queue_same, hf.1, hp]
  · rw [modifyQueue_queue_same, hf.2, hv]

theorem arrived_visible (x : Queue) : x.arrived.visible = 0 := by
  simp [Queue.visible, Queue.arrived, wordsBetween]

/-- CLEAR-FAULT keeps both head laws; the drain test that ends it moves no queue that has a push waiter (R101). -/
theorem heads_clearFaultQueue {s : State} (h : Settled s) {q : QueueId} (hs : (s.queue q).state = .faulted) :
    HeadLaw (s.clearFaultQueue q) ∧ PopHeadLaw (s.clearFaultQueue q) := by
  have hcleared : Settled (s.modifyQueue q Queue.cleared) :=
    settled_modifyQueue_of_idle h (by rw [hs]; decide) (by rw [hs]; decide) _ ⟨rfl, rfl⟩
  have hchecked : Settled ((((s.modifyQueue q Queue.cleared).reissueFailed q).commitAttempt q).noticeCheck q) :=
    settled_noticeCheck (settled_commitAttempt (settled_issueFillers hcleared _) q) q
  unfold State.clearFaultQueue
  obtain ⟨-, he⟩ | ⟨hd, he⟩ :=
    testDrain_cases ((((s.modifyQueue q Queue.cleared).reissueFailed q).commitAttempt q).noticeCheck q) q
  · rw [he]
    exact ⟨hchecked.heads, hchecked.popHeads⟩
  · have hpushers := Waits.no_pusher (hchecked.waits q) (by rw [((drainComplete_iff _ _).1 hd).1]; decide)
    generalize (((s.modifyQueue q Queue.cleared).reissueFailed q).commitAttempt q).noticeCheck q = u at *
    have hother : ∀ p, p ≠ q → (u.setQueue q (u.queue q).arrived).queue p = u.queue p :=
      fun p hp => setQueue_queue_other _ hp _
    rw [he]
    refine ⟨headLaw_of_other hchecked.heads hother le_rfl rfl (fun _ => ?_),
      forall_queue_of_other (P := PopHeadStays) hother (fun p _ => hchecked.popHeads p) (fun w _ _ => .inl ?_)⟩
    · rw [setQueue_queue_same]
      exact .of_no_waiter hpushers
    · rw [setQueue_queue_same, arrived_visible]
      exact w.length.property.1

theorem heads_act {s : State} (h : Settled s) (q : QueueId) (a : QueueAction) :
    HeadLaw (s.act q a).state ∧ PopHeadLaw (s.act q a).state := by
  have hkeep : ∀ {u : State}, Settled u → HeadLaw u ∧ PopHeadLaw u := fun k => ⟨k.heads, k.popHeads⟩
  cases a with
  | start =>
    unfold State.act State.actStart
    dsimp only
    split
    next hs =>
      split
      · exact hkeep h
      · exact hkeep (settled_modifyQueue_of_idle h (by rw [hs]; decide) (by rw [hs]; decide) _ ⟨rfl, rfl⟩)
    next => exact hkeep h
  | drain =>
    unfold State.act State.actDrain
    dsimp only
    split
    · exact hkeep (settled_drainQueue h q)
    · exact hkeep h
    · exact hkeep h
  | stop =>
    unfold State.act State.actStop
    dsimp only
    split
    · exact hkeep h
    · exact hkeep h
    · exact hkeep (settled_stopQueue h q)
  | flush =>
    unfold State.act State.actFlush
    dsimp only
    split
    · exact hkeep h
    · exact hkeep h
    · exact hkeep (settled_flushQueue h q)
  | clearFault =>
    unfold State.act State.actClearFault
    dsimp only
    split
    next hs => exact heads_clearFaultQueue h hs
    next => exact hkeep h
  | armNotice =>
    unfold State.act State.actArmNotice
    dsimp only
    split
    · exact hkeep h
    · refine hkeep (settled_noticeCheck (settled_of_other h (q := q) (fun p hp => modifyQueue_queue_other _ hp _) le_rfl rfl
        ?_ ?_ ?_) q) <;> rw [modifyQueue_queue_same]
      · exact h.waits q
      · exact h.popHeads q
      · exact id

theorem heads_queueCommandEffect {s : State} (h : Settled s) (payload : List Byte) :
    HeadLaw (queueCommandEffect s payload).state ∧ PopHeadLaw (queueCommandEffect s payload).state := by
  unfold queueCommandEffect
  split
  · exact ⟨h.heads, h.popHeads⟩
  · split
    · exact ⟨h.heads, h.popHeads⟩
    · exact heads_act h _ _

theorem settled_configureQueueEffect {s : State} (h : Settled s) (payload : List Byte) :
    Settled (configureQueueEffect s payload).state := by
  unfold configureQueueEffect
  split
  · exact h
  · split
    · exact h
    next hs =>
      split
      · exact h
      · split
        · rw [ne_eq, not_not] at hs
          dsimp only
          refine settled_modifyQueue_of_idle h (by rw [hs]; decide) (by rw [hs]; decide) _ ⟨?_, ?_⟩ <;> rfl
        · exact h

/-! ### The soft reset -/

/-- A soft reset leaves no waiter in a queue that it has come to, and keeps each queue that has none so (R106). -/
theorem softResetStops_no_waiter (qs : List QueueId) {s : State} (h : WaiterLaw s) :
    WaiterLaw (qs.foldl State.softResetStop s) ∧
      ∀ q, q ∈ qs ∨ (s.queue q).pushWaiters = [] ∧ (s.queue q).popWaiters = [] →
        ((qs.foldl State.softResetStop s).queue q).pushWaiters = [] ∧
          ((qs.foldl State.softResetStop s).queue q).popWaiters = [] := by
  induction qs generalizing s with
  | nil => exact ⟨h, fun q hq => hq.resolve_left List.not_mem_nil⟩
  | cons k ks ih =>
    have hsame : ((s.softResetStop k).queue k).pushWaiters = [] ∧ ((s.softResetStop k).queue k).popWaiters = [] := by
      obtain ⟨hs, he⟩ | ⟨-, he⟩ := softResetStop_cases s k
      · rw [he]
        exact Waits.no_waiter (h k) (by rintro hr; rw [hr] at hs; simp at hs) (by rintro hr; rw [hr] at hs; simp at hs)
      · rw [he]
        obtain ⟨-, hd⟩ | ⟨-, hd⟩ := testStop_cases (s.stopActs k) k
        · rw [hd, stopActs_queue_same]
          exact ⟨rfl, rfl⟩
        · rw [hd, setQueue_queue_same, stopActs_queue_same]
          exact ⟨rfl, rfl⟩
    have hother : ∀ p, p ≠ k → (s.softResetStop k).queue p = s.queue p := by
      intro p hp
      obtain ⟨-, he⟩ | ⟨-, he⟩ := softResetStop_cases s k
      · rw [he]
      · rw [he]
        obtain ⟨-, hd⟩ | ⟨-, hd⟩ := testStop_cases (s.stopActs k) k
        · rw [hd, stopActs_queue_other s hp]
        · rw [hd, setQueue_queue_other _ hp, stopActs_queue_other s hp]
    obtain ⟨hw, hq⟩ := ih (s := s.softResetStop k)
      (forall_queue_of_other (P := Waits) hother (fun p _ => h p) (.of_no_waiter hsame.1 hsame.2))
    refine ⟨hw, fun q hmem => hq q ?_⟩
    by_cases hk : q = k
    · exact .inr (hk ▸ hsame)
    · rw [List.mem_cons] at hmem
      rw [hother q hk]
      exact hmem.imp (fun hm => hm.resolve_left hk) id

theorem heads_softResetEffect {s : State} (h : WaiterLaw s) (payload : List Byte) :
    HeadLaw (softResetEffect s payload).state ∧ PopHeadLaw (softResetEffect s payload).state := by
  obtain ⟨-, hnone⟩ := softResetStops_no_waiter (List.finRange 16) (s := s.withLink { s.link with softReset := true }) h
  have hq : ∀ q, _ := fun q => hnone q (.inl (List.mem_finRange q))
  have hstops : (softResetEffect s payload).state =
      ((s.withLink { s.link with softReset := true })).softResetStops := by
    obtain ⟨-, he⟩ | ⟨-, he⟩ := arbitrateIfFreed_cases (s.withLink { s.link with softReset := true })
      (s.withLink { s.link with softReset := true }).softResetStops
    · exact he.trans (entryFreed_of_no_waiter (fun q => (hq q).1))
    · exact he
  rw [hstops]
  exact ⟨fun _ _ q => eligibleHead_of_no_waiter (hq q).1, fun q => PopHeadStays.of_no_waiter (hq q).2⟩

/-! ### Commands and steps -/

/-- The execution of a pending request keeps the head laws, if its effect does. -/
theorem heads_execute {s : State} (h : Settled s) (c : Command) (f : State → List Byte → Executed)
    (hf : ∀ payload, HeadLaw (f s payload).state ∧ PopHeadLaw (f s payload).state) :
    HeadLaw (s.execute c f) ∧ PopHeadLaw (s.execute c f) := by
  unfold State.execute
  split
  · exact ⟨h.heads, h.popHeads⟩
  · split
    · unfold State.executeWith
      dsimp only
      split
      · exact ⟨h.heads, h.popHeads⟩
      · exact hf _
    · exact ⟨h.heads, h.popHeads⟩

/-- An effect that leaves the queues, the Reservation Table and the arbiter's mark. -/
theorem settled_tableEffects {s : State} (h : Settled s) (payload : List Byte) :
    Settled (readQueueEffect s payload).state ∧ Settled (readWindowEffect s payload).state ∧
      Settled (writeWindowEffect s payload).state ∧ Settled (writeClassEffect s payload).state ∧
      Settled (readLogEffect s payload).state ∧ Settled (peekLogEffect s payload).state := by
  refine ⟨?_, ?_, ?_, ?_, ?_, ?_⟩
  · unfold readQueueEffect
    split <;> exact h
  · unfold readWindowEffect
    split <;> exact h
  · unfold writeWindowEffect
    split
    · exact h
    · split
      · exact h
      · exact h.of_same rfl le_rfl rfl
  · unfold writeClassEffect
    split
    · exact h
    · split
      · exact h
      · exact h.of_same rfl le_rfl rfl
  · unfold readLogEffect
    split
    · exact h
    · exact h.of_same rfl le_rfl rfl
  · unfold peekLogEffect
    split <;> exact h

theorem heads_complete {s : State} (h : Settled s) (n : Nat) (status : MemStatus) (data : List Word) :
    HeadLaw (s.complete n status data) ∧ PopHeadLaw (s.complete n status data) := by
  unfold State.complete
  split
  · exact ⟨h.heads, h.popHeads⟩
  next p _ =>
    have hroute := settled_route (s := s.releaseNumber n) (h.of_same rfl le_rfl rfl) p.request status data
    exact heads_finish hroute.popHeads hroute.heads

theorem heads_expire {s : State} (h : Settled s) (r : Requester) (t : Tag) :
    HeadLaw (s.expire r t) ∧ PopHeadLaw (s.expire r t) := by
  obtain he | ⟨k, hk, -, he⟩ := expire_cases s r t
  · rw [he]
    exact ⟨h.heads, h.popHeads⟩
  · rw [he]
    have hheld := settled_expireHeld h hk
    exact heads_finish hheld.popHeads hheld.heads

theorem heads_presentAndArbitrate {s : State} (h : Settled s) (q : Request) :
    HeadLaw (s.presentAndArbitrate q) ∧ PopHeadLaw (s.presentAndArbitrate q) := by
  have hpops : ∀ {u : State}, PopHeadLaw u → PopHeadLaw (u.presentRequest q) := fun {u} hu =>
    popHeadLaw_takePresented (s := u.withSys { u.sys with arrivals := u.sys.arrivals ++ [q] }) hu
  cases hd : s.arbiterDue with
  | true =>
    rw [presentAndArbitrate_of_due q hd]
    exact ⟨headLaw_arbitrate _, (granted_arbitrate _).popHeadLaw (hpops (u := s.withArbiterDue false) h.popHeads)⟩
  | false =>
    rw [presentAndArbitrate_of_not_due q hd]
    exact ⟨headLaw_takePresented (s := s.withSys { s.sys with arrivals := s.sys.arrivals ++ [q] }) h.heads, hpops h.popHeads⟩

theorem heads_exec {c : Instr} {s t : State} (h : Settled s) (he : exec c s = .next t) : HeadLaw t ∧ PopHeadLaw t := by
  have k : Settled s.clearOutputs := h.of_same rfl le_rfl rfl
  have hfinish : ∀ {u : State}, HeadLaw u ∧ PopHeadLaw u → HeadLaw u.finish ∧ PopHeadLaw u.finish :=
    fun hu => heads_finish hu.2 hu.1
  have hkeep : ∀ {u : State}, Settled u → HeadLaw u ∧ PopHeadLaw u := fun k => ⟨k.heads, k.popHeads⟩
  have haction : ∀ a, HeadLaw (s.clearOutputs.executeAction a).finish ∧ PopHeadLaw (s.clearOutputs.executeAction a).finish := by
    intro a
    refine hfinish ?_
    unfold State.executeAction
    split
    · exact hkeep k
    · split
      · exact heads_execute k _ _ (heads_queueCommandEffect k)
      · exact hkeep k
  have htable := settled_tableEffects k
  cases c <;> injection he with he <;> subst he
  case takeRequest q => exact heads_presentAndArbitrate k q
  case writeBeat r t b => exact hfinish (hkeep (settled_offerBeat k r t b))
  case memoryPassage n =>
    unfold State.passage
    split
    · split
      · exact hkeep (k.of_same rfl le_rfl rfl)
      · exact hkeep k
    · exact hkeep k
  case waiterExpiry r t => exact heads_expire k r t
  case requestFrame bits => exact hkeep (k.of_same rfl le_rfl rfl)
  case fetch n => exact hkeep (k.of_same rfl le_rfl rfl)
  case readStatus => exact heads_execute k _ _ (fun _ => hkeep k)
  case readWindow => exact heads_execute k _ _ (fun p => hkeep (htable p).2.1)
  case writeWindow => exact heads_execute k _ _ (fun p => hkeep (htable p).2.2.1)
  case readClassMap => exact heads_execute k _ _ (fun _ => hkeep k)
  case writeClass => exact heads_execute k _ _ (fun p => hkeep (htable p).2.2.2.1)
  case readQueue => exact heads_execute k _ _ (fun p => hkeep (htable p).1)
  case configureQueue => exact heads_execute k _ _ (fun p => hkeep (settled_configureQueueEffect k p))
  case readLog => exact heads_execute k _ _ (fun p => hkeep (htable p).2.2.2.2.1)
  case peekLog => exact heads_execute k _ _ (fun p => hkeep (htable p).2.2.2.2.2)
  case softReset => exact hfinish (heads_execute k _ _ (heads_softResetEffect k.waits))
  case powerOnReset p =>
    have hq : ∀ q, (s.powerOn p).queue q = Queue.reset := reset_queue
    exact ⟨fun _ _ q => eligibleHead_of_no_waiter (by rw [hq]; rfl), fun q => PopHeadStays.of_no_waiter (by rw [hq]; rfl)⟩
  case queueCommand => exact hfinish (heads_execute k _ _ (heads_queueCommandEffect k))
  case start => exact haction _
  case drain => exact haction _
  case stop => exact haction _
  case flush => exact haction _
  case clearFault => exact haction _
  case armNotice => exact haction _
  all_goals exact heads_complete k _ _ _

theorem heads_idle {s t : State} (h : Settled s) (he : idle s = .next t) : HeadLaw t ∧ PopHeadLaw t := by
  unfold idle at he
  split at he <;> injection he with he <;> subst he
  · exact ⟨h.heads, h.popHeads⟩
  · exact heads_expire (s := s.clearOutputs) (h.of_same rfl le_rfl rfl) _ _
  · exact heads_expire (s := s.useFree.clearOutputs) (h.of_same rfl le_rfl rfl) _ _

theorem presentRequest_arbiterDue (s : State) (q : Request) : (s.presentRequest q).arbiterDue = s.arbiterDue :=
  takeFrom_keeps (P := fun u => u.arbiterDue = s.arbiterDue) (fun _ _ h => h) (fun u q h => (taken_take u q).due.trans h) _
    (s := s.withSys { s.sys with arrivals := s.sys.arrivals ++ [q] }) rfl

/-- The arbiter's run is put off only before a TAKE_REQUEST, and that command takes the mark away (R37). -/
theorem arbiterLaw_step {s t : State} (h : ArbiterLaw s) (he : step s = .next t) : ArbiterLaw t := by
  unfold step at he
  by_cases hd : s.arbiterDue = true
  · obtain ⟨q, rest, hp⟩ := h hd
    simp only [hp] at he
    injection he with he
    rw [presentAndArbitrate_of_due (s := (s.withPending rest).clearOutputs) q hd] at he
    have hclear : t.arbiterDue = false := by
      rw [← he, (granted_arbitrate _).only.arbiterDue, presentRequest_arbiterDue]
      rfl
    exact fun hdue => absurd (hclear.symm.trans hdue) Bool.false_ne_true
  · split at he
    · obtain ⟨hpend, -, hrise⟩ := (idle_moves he).keeps_due
      exact fun hdue => hpend ▸ (hrise hdue).resolve_left hd
    next c rest _ =>
      obtain hm | ⟨p, -, rfl⟩ | ⟨q, -, hdue, -⟩ := exec_moves he
      · obtain ⟨hpend, -, hrise⟩ := hm.keeps_due
        exact fun hdue => hpend ▸ (hrise hdue).resolve_left hd
      · exact fun hdue => absurd hdue Bool.false_ne_true
      · exact absurd hdue hd

/-- Settles O58: the waiting laws hold again at the end of each operation, by its own re-examinations and the arbiter's run. -/
theorem stepLeavesNoWaiterThatCouldBeGranted : Obligations.StepLeavesNoWaiterThatCouldBeGranted := by
  refine ⟨fun s t _ hw hh hp he => ?_, fun s t h he => arbiterLaw_step h he⟩
  unfold step at he
  split at he
  · exact heads_idle ⟨hw, hp, hh⟩ he
  next c rest _ => exact heads_exec (s := s.withPending rest) ⟨hw, hp, hh⟩ he

end Sys2Proof.Machine.Laws

namespace Sys2Proof.Machine.Laws

open Sys2Proof Sys2Proof.Machine

/-! ### Positions and tilings -/

theorem advance_advance (p : Position) (a b : Nat) : advance (advance p a) b = advance p (a + b) := by
  simp only [advance, BitVec.ofNat_add, BitVec.add_assoc]

theorem advance_zero (p : Position) : advance p 0 = p := by simp [advance]

theorem advance_ne {n : Nat} (p : Position) (h0 : 0 < n) (hn : n < 2 ^ 32) : advance p n ≠ p := by
  intro h
  have hz : BitVec.ofNat 32 n = 0#32 := by
    rw [advance] at h
    exact BitVec.add_right_eq_self.1 h
  have := congrArg BitVec.toNat hz
  simp only [BitVec.toNat_ofNat] at this
  omega

/-- The words that entries occupy (R13). -/
abbrev wordsOf (es : List Entry) : Nat := (es.map (fun e => recordWords e.words)).sum

/-- The entries of a tiling that lies d words behind p do not start at p. -/
theorem tiles_start_ne {r : Position} {last : Sequence} (es : List Entry) {p : Position} {n : Sequence} {d : Nat}
    (h : tiles r last es (advance p d) n) (h0 : 0 < d) (hd : d + wordsOf es < 2 ^ 32) : ∀ e ∈ es, e.start ≠ p := by
  induction es generalizing d n with
  | nil => exact fun _ he => absurd he List.not_mem_nil
  | cons e es ih =>
    obtain ⟨hs, -, ht⟩ := h
    simp only [wordsOf, List.map_cons, List.sum_cons] at hd
    rw [advance_advance] at ht
    refine List.forall_mem_cons.2 ⟨hs ▸ advance_ne p h0 (by omega), ih ht (by omega) (by rw [wordsOf]; omega)⟩

/-! ### Reservation entries -/

theorem same_eq (x y : Entry) : x.same y = decide (y.queue = x.queue ∧ y.start = x.start) := by
  rw [Entry.same, decide_eq_decide]
  exact ⟨fun ⟨hq, hp⟩ => ⟨hq.symm, hp.symm⟩, fun ⟨hq, hp⟩ => ⟨hq.symm, hp.symm⟩⟩

theorem freeEntry_eq_entryGone (s : State) (e : Entry) : s.freeEntry e = s.entryGone e.queue e.start := by
  simp only [State.freeEntry, State.entryGone, same_eq]

theorem entriesOf_freeEntry_same (s : State) (e : Entry) :
    (s.freeEntry e).entriesOf e.queue = (s.entriesOf e.queue).filter (fun y => decide (y.start ≠ e.start)) := by
  simp only [State.entriesOf, freeEntry_reservations, List.filter_filter]
  refine List.filter_congr (fun y _ => ?_)
  by_cases hq : y.queue = e.queue <;> simp [same_eq, hq]

theorem entriesOf_freeEntry_other (s : State) (e : Entry) {p : QueueId} (h : p ≠ e.queue) :
    (s.freeEntry e).entriesOf p = s.entriesOf p := by
  simp only [State.entriesOf, freeEntry_reservations, List.filter_filter]
  refine List.filter_congr (fun y _ => ?_)
  by_cases hq : y.queue = p <;> simp [same_eq, hq, h]

theorem entriesOf_length_le (s : State) (q : QueueId) : (s.entriesOf q).length ≤ s.reservations.length :=
  List.length_filter_le _ _

theorem entriesOf_queue {s : State} {q : QueueId} {e : Entry} (h : e ∈ s.entriesOf q) : e.queue = q := by
  simpa using (List.mem_filter.1 h).2

theorem oldest_eq (s : State) (q : QueueId) :
    s.oldest q = (s.entriesOf q).find? (fun e => decide (e.start = (s.queue q).commit)) := by
  simp [State.oldest, State.entriesOf, List.find?_filter]

theorem oldest_eq_some {s : State} {q : QueueId} {e : Entry} (h : s.oldest q = some e) :
    e ∈ s.entriesOf q ∧ e.start = (s.queue q).commit := by
  rw [oldest_eq] at h
  exact ⟨List.mem_of_find?_eq_some h, by simpa using List.find?_some h⟩

/-! ### Commit advance -/

/-- A commit attempt passes an entry exactly when the oldest is CLOSED (R33). -/
theorem commitPasses_iff (s : State) (q : QueueId) :
    s.commitPasses q = true ↔ ∃ e, s.oldest q = some e ∧ e.state = .closed := by
  unfold State.commitPasses
  cases s.oldest q <;> simp

theorem commitPasses_false {s : State} {q : QueueId}
    (h : ∀ k ∈ s.entriesOf q, k.start = (s.queue q).commit → k.state ≠ .closed) : s.commitPasses q = false := by
  rw [← Bool.not_eq_true, commitPasses_iff]
  rintro ⟨e, he, hc⟩
  obtain ⟨hm, hs⟩ := oldest_eq_some he
  exact h e hm hs hc

theorem passClosed_of_not_passes {s : State} {q : QueueId} (h : s.commitPasses q = false) (n : Nat) :
    s.passClosed q n = s := by
  cases n with
  | zero => rfl
  | succ n =>
    unfold State.passClosed
    split
    · rfl
    next e he =>
      rw [if_neg (fun hc => by rw [(commitPasses_iff s q).2 ⟨e, he, hc⟩] at h; cases h)]

theorem passClosed_succ {s : State} {q : QueueId} {e : Entry} (h : s.oldest q = some e) (hc : e.state = .closed) (n : Nat) :
    s.passClosed q (n + 1) = ((s.freeEntry e).modifyQueue q (fun x =>
      { x with commit := advance e.start (recordWords e.words) })).passClosed q n := by
  simp only [State.passClosed, h, hc, if_true]

/-- A commit advance passes the CLOSED entries at the commit end of a tiling, one after the other (R33). -/
theorem passClosed_prefix (closed rest : List Entry) {q : QueueId} {n : Sequence} {fuel : Nat} {s : State}
    (ht : tiles (s.queue q).reserve (s.queue q).nextSequence (s.entriesOf q) (s.queue q).commit n)
    (hw : wordsOf (s.entriesOf q) ≤ 2097152) (he : s.entriesOf q = closed ++ rest) (hc : ∀ e ∈ closed, e.state = .closed)
    (hr : ∀ e, rest.head? = some e → e.state ≠ .closed) (hf : closed.length ≤ fuel) :
    (s.passClosed q fuel).entriesOf q = rest ∧
      (∀ p, p ≠ q → (s.passClosed q fuel).entriesOf p = s.entriesOf p ∧ (s.passClosed q fuel).queue p = s.queue p) ∧
      (s.passClosed q fuel).queue q = { s.queue q with commit := advance (s.queue q).commit (wordsOf closed) } := by
  induction closed generalizing s n fuel with
  | nil =>
    have hstuck : s.commitPasses q = false := by
      rw [← Bool.not_eq_true, commitPasses_iff]
      rintro ⟨e, hold, hclosed⟩
      rw [oldest_eq, he, List.nil_append] at hold
      cases rest with
      | nil => cases hold
      | cons k ks =>
        rw [he] at ht
        rw [List.find?_cons, ht.1, decide_eq_true rfl] at hold
        exact hr e hold hclosed
    rw [passClosed_of_not_passes hstuck]
    exact ⟨he, fun _ _ => ⟨rfl, rfl⟩, by rw [wordsOf, List.map_nil, List.sum_nil, advance_zero]⟩
  | cons e closed ih =>
    obtain ⟨fuel, rfl⟩ := Nat.exists_eq_add_of_lt (Nat.lt_of_lt_of_le (Nat.succ_pos _) hf)
    rw [Nat.zero_add] at hf ⊢
    have hmem : e ∈ s.entriesOf q := by rw [he]; exact List.mem_cons_self
    have hqueue := entriesOf_queue hmem
    rw [he] at ht hw
    obtain ⟨hstart, -, ht⟩ := ht
    simp only [wordsOf, List.cons_append, List.map_cons, List.sum_cons] at hw
    have hold : s.oldest q = some e := by
      rw [oldest_eq, he, List.cons_append, List.find?_cons, hstart, decide_eq_true rfl]
    have hothers : ∀ k ∈ closed ++ rest, k.start ≠ e.start := by
      have hbehind := tiles_start_ne (closed ++ rest) (p := e.start) (hstart ▸ ht) (by rw [recordWords]; omega)
        (by rw [wordsOf]; omega)
      exact hbehind
    have hentries : (s.freeEntry e).entriesOf q = closed ++ rest := by
      have hfree := entriesOf_freeEntry_same s e
      rw [hqueue, he, List.cons_append, List.filter_cons_of_neg (by simp)] at hfree
      rw [hfree, List.filter_eq_self]
      exact fun k hk => decide_eq_true (hothers k hk)
    rw [passClosed_succ hold (hc e List.mem_cons_self)]
    have hx : ((s.freeEntry e).modifyQueue q (fun x => { x with commit := advance e.start (recordWords e.words) })).queue q =
        { s.queue q with commit := advance e.start (recordWords e.words) } := modifyQueue_queue_same _ _ _
    have hent : ∀ p, ((s.freeEntry e).modifyQueue q (fun x =>
        { x with commit := advance e.start (recordWords e.words) })).entriesOf p = (s.freeEntry e).entriesOf p := fun _ => rfl
    obtain ⟨h1, h2, h3⟩ := ih (s := (s.freeEntry e).modifyQueue q (fun x =>
        { x with commit := advance e.start (recordWords e.words) })) (fuel := fuel)
      (by rw [hx, hent, hentries]; exact hstart ▸ ht) (by rw [hent, hentries, wordsOf]; omega) (by rw [hent, hentries])
      (fun k hk => hc k (List.mem_cons_of_mem _ hk)) (by simpa using hf)
    refine ⟨h1, fun p hp => ?_, ?_⟩
    · obtain ⟨hpe, hpq⟩ := h2 p hp
      rw [hpe, hpq, hent, entriesOf_freeEntry_other s e (hqueue ▸ hp), modifyQueue_queue_other _ hp]
      exact ⟨rfl, rfl⟩
    · rw [h3, hx]
      simp only [hstart, advance_advance, wordsOf, List.map_cons, List.sum_cons]

/-- Settles O39. -/
theorem commitAdvancePassesTheClosedPrefix : Obligations.CommitAdvancePassesTheClosedPrefix := by
  intro s q n closed rest ht hw he hc hr
  refine passClosed_prefix closed rest ht hw he hc hr ?_
  have hle := entriesOf_length_le s q
  rw [he, List.length_append] at hle
  omega

end Sys2Proof.Machine.Laws

namespace Sys2Proof.Machine.Laws

open Sys2Proof Sys2Proof.Machine

/-! ### The word of a beat (R23) -/

/-- A mask made of 0xFF bytes has a bit exactly where a byte that holds it is put in. -/
theorem getLsbD_foldl_mask (lanes : Lanes) (l : List Nat) (m : Word) (k : Nat) :
    (l.foldl (fun m i => if lanes.getLsbD i then m ||| (0xFF#64 <<< (8 * i)) else m) m).getLsbD k =
      (m.getLsbD k || l.any (fun i => lanes.getLsbD i && (0xFF#64 <<< (8 * i)).getLsbD k)) := by
  induction l generalizing m with
  | nil => simp
  | cons i l ih =>
    rw [List.foldl_cons, ih, List.any_cons]
    cases lanes.getLsbD i <;> simp [Bool.or_assoc]

/-- Bit j of byte i stands in the byte at place n exactly when n is i. -/
theorem getLsbD_byteMask (i j n : Nat) (hi : i < 8) (hj : j < 8) :
    (0xFF#64 <<< (8 * n)).getLsbD (8 * i + j) = decide (n = i) := by
  have hbit : ∀ k, (0xFF#64).getLsbD k = decide (k < 8) := by
    intro k
    rw [BitVec.getLsbD_ofNat, show (0xFF : Nat) = 2 ^ 8 - 1 from rfl, Nat.testBit_two_pow_sub_one]
    by_cases hk : k < 8
    · simp [hk, Nat.lt_trans hk]
    · simp [hk]
  rw [BitVec.getLsbD_shiftLeft, hbit, Bool.eq_iff_iff]
  simp only [Bool.and_eq_true, Bool.not_eq_true', decide_eq_true_eq, decide_eq_false_iff_not]
  omega

/-- Byte i of the lane mask is 0xFF where lane i is enabled, and 0 elsewhere. -/
theorem getLsbD_laneMask (lanes : Lanes) (i j : Nat) (hi : i < 8) (hj : j < 8) :
    (laneMask lanes).getLsbD (8 * i + j) = lanes.getLsbD i := by
  have hzero : (0 : Word).getLsbD (8 * i + j) = false := BitVec.getLsbD_zero
  rw [laneMask, getLsbD_foldl_mask, hzero, Bool.false_or, Bool.eq_iff_iff, List.any_eq_true]
  simp only [List.mem_range, Bool.and_eq_true, getLsbD_byteMask i j _ hi hj, decide_eq_true_eq]
  exact ⟨fun ⟨n, _, hl, hn⟩ => hn ▸ hl, fun hl => ⟨i, hi, hl, rfl⟩⟩

/-- The bytes of a beat's word (R23). -/
theorem beatWord_bytes (b : Beat) (i : Fin 8) : (beatWord b).extractLsb' (8 * i.val) 8 =
    if b.lanes.getLsbD i.val then b.data.extractLsb' (8 * i.val) 8 else 0 := by
  apply BitVec.eq_of_getLsbD_eq
  intro j hj
  rw [BitVec.getLsbD_extractLsb', beatWord, BitVec.getLsbD_and, getLsbD_laneMask _ _ _ i.isLt hj]
  cases b.lanes.getLsbD i.val <;> simp [hj]

/-! ### A beat of a granted push -/

/-- A beat that a granted push takes is handed to its entry, the transaction counting it (R137, R23). -/
theorem exec_writeBeat_handing {s : State} {r : Requester} {t : Tag} {x : Transaction} {e : Entry} (b : Beat)
    (hx : s.transaction r t = some x) (hm : x.beatMode = some .handing) (hr : x.received < x.request.beats.val)
    (he : s.fillingEntry r t = some e) : exec (.writeBeat r t b) s =
      .next (((s.clearOutputs.setTransaction { x with received := x.received + 1 }).handBeat e b).finish) := by
  have hoffer : s.clearOutputs.offerBeat r t b = s.clearOutputs.handOver { x with received := x.received + 1 } b := by
    simp only [State.offerBeat, clearOutputs_transaction, hx, State.takeBeat, hr, if_true, hm]
  have hfill : s.clearOutputs.fillingEntry x.request.requester x.request.tag = some e := by
    obtain ⟨hreq, htag⟩ := transaction_named hx
    rw [hreq, htag]
    exact he
  show Host.Outcome.next (s.clearOutputs.offerBeat r t b).finish = _
  rw [hoffer]
  simp only [State.handOver, hfill]

/-- Where the transaction stays tracked and no response is sent, a beat ends as it is handed. -/
theorem finish_of_tracked {s u : State} {r : Requester} {t : Tag} {x y : Transaction} (hx : s.transaction r t = some x)
    (hu : u.sys = (s.clearOutputs.setTransaction y).sys) : u.finish = u := by
  refine finish_of_no_response _ (by rw [hu]; rfl) (softResetDone_of_tracked _ (fun hnil => tracker_ne_nil hx ?_))
  rw [hu, ← List.length_eq_zero_iff, setTransaction_tracker_length] at hnil
  exact List.length_eq_zero_iff.1 hnil

theorem recordCause_eq (old : Option AbandonCause) (c : AbandonCause) : recordCause old c = some (old.getD c) := by
  cases old <;> rfl

theorem ready_iff (e : Entry) :
    e.ready = true ↔ e.state = .discarding ∧ e.beatsTaken = e.words.val ∧ e.writesOutstanding = 0 := by
  simp [Entry.ready, and_assoc]

/-- An entry that is not ready is stored. -/
theorem settleEntry_of_not_ready (s : State) {e : Entry} (h : e.beatsTaken ≠ e.words.val ∨ e.writesOutstanding ≠ 0) :
    s.settleEntry e = s.setEntry e := by
  rw [State.settleEntry, if_neg]
  rw [ready_iff, not_and, not_and_or]
  exact fun _ => h

theorem handBeat_gathers (s : State) {e : Entry} {b : Beat} (h : e.state = .filling) (hp : b.poison = false)
    (hlast : e.beatsTaken + 1 ≠ e.words.val) : s.handBeat e b = s.setEntry (e.gather b) := by
  have hcount : (e.gather b).beatsTaken ≠ (e.gather b).words.val := hlast
  simp only [State.handBeat, h, hp, Bool.false_eq_true, if_false, hcount]

theorem handBeat_writes (s : State) {e : Entry} {b : Beat} (h : e.state = .filling) (hp : b.poison = false)
    (hlast : e.beatsTaken + 1 = e.words.val) : s.handBeat e b =
      (s.setEntry ((e.gather b).written (laneCount b.lanes)
        (payloadWrites (s.queue e.queue).config (e.gather b)).length)).present
          (payloadWrites (s.queue e.queue).config (e.gather b)) := by
  have hcount : (e.gather b).beatsTaken = (e.gather b).words.val := hlast
  simp only [State.handBeat, h, hp, Bool.false_eq_true, if_false, hcount, if_true]

theorem handBeat_poisoned (s : State) {e : Entry} {b : Beat} (h : e.state = .filling) (hp : b.poison = true) :
    s.handBeat e b = s.settleEntry e.poisoned := by
  simp only [State.handBeat, h, hp, if_true]

theorem handBeat_discarding (s : State) {e : Entry} (b : Beat) (h : e.state = .discarding) :
    s.handBeat e b = s.settleEntry { e with beatsTaken := e.beatsTaken + 1 } := by
  simp only [State.handBeat, h]

/-- Settles O32. -/
theorem beatsBecomeThePayload : Obligations.BeatsBecomeThePayload := by
  refine ⟨?_, ?_, ?_⟩
  · intro s r t b x e hx hm hr he hs hp hlast
    refine ⟨beatWord b, beatWord_bytes b, ?_⟩
    rw [exec_writeBeat_handing b hx hm hr he, handBeat_gathers _ hs hp hlast]
    exact congrArg _ (finish_of_tracked hx rfl)
  · intro s r t b x e hx hm hr he hs hp hlast
    refine ⟨beatWord b, _, beatWord_bytes b, rfl, ?_⟩
    rw [exec_writeBeat_handing b hx hm hr he, handBeat_writes _ hs hp hlast]
    exact congrArg _ (finish_of_tracked hx rfl)
  · intro s r t b x e hx hm hr he
    refine ⟨fun hs hp hc hlast => ?_, fun hs hlast => ?_⟩
    · have hpoisoned : e.poisoned =
          { e with state := .discarding, cause := some .poison, gathered := [], beatsTaken := e.beatsTaken + 1 } := by
        rw [Entry.poisoned, recordCause_eq, hc]
        rfl
      rw [exec_writeBeat_handing b hx hm hr he, handBeat_poisoned _ hs hp,
        settleEntry_of_not_ready _ (e := e.poisoned) (.inl hlast), hpoisoned]
      exact congrArg _ (finish_of_tracked hx rfl)
    · rw [exec_writeBeat_handing b hx hm hr he, handBeat_discarding _ b hs,
        settleEntry_of_not_ready _ (e := { e with beatsTaken := e.beatsTaken + 1 }) hlast]
      exact congrArg _ (finish_of_tracked hx rfl)

/-! ### Completions of payload and header writes -/

theorem entryAt_spec {s : State} {q : QueueId} {p : Position} {e : Entry} (h : s.entryAt q p = some e) :
    e ∈ s.reservations ∧ e.queue = q ∧ e.start = p := by
  have hq := List.find?_some h
  exact ⟨List.mem_of_find?_eq_some h, by simpa using hq⟩

theorem complete_payload {s : State} {n : Nat} {r : MemRequest} {q : QueueId} {p : Position} {e : Entry} (ha : s.awaits n r)
    (ho : r.owner = .payload q p) (he : s.entryAt q p = some e) (status : MemStatus) :
    s.clearOutputs.complete n status [] = ((s.clearOutputs.numberFreed n).payloadCompletes e status).finish := by
  have hheld : s.clearOutputs.mem.held n = some ⟨n, r⟩ := ha
  have hentry : (s.clearOutputs.numberFreed n).entryAt q p = some e := he
  simp only [State.complete, hheld]
  show ((s.clearOutputs.numberFreed n).route r status []).finish = _
  simp only [State.route, ho, hentry]

theorem complete_header {s : State} {n : Nat} {r : MemRequest} {q : QueueId} {p : Position} {e : Entry} (ha : s.awaits n r)
    (ho : r.owner = .header q p) (he : s.entryAt q p = some e) (status : MemStatus) :
    s.clearOutputs.complete n status [] = ((s.clearOutputs.numberFreed n).headerCompletes e status).finish := by
  have hheld : s.clearOutputs.mem.held n = some ⟨n, r⟩ := ha
  have hentry : (s.clearOutputs.numberFreed n).entryAt q p = some e := he
  simp only [State.complete, hheld]
  show ((s.clearOutputs.numberFreed n).route r status []).finish = _
  simp only [State.route, ho, hentry]

theorem headerWrite_of_data (c : QueueConfig) {e : Entry} (h : e.kind = .data) : headerWrite c e = dataHeaderWrite c e := by
  rw [headerWrite, Entry.header, h]
  rfl

/-- A payload write that is not the last of its record lowers the count. -/
theorem afterPayload_of_outstanding (s : State) {e : Entry} (h : e.writesOutstanding ≠ 0) : s.afterPayload e = s.setEntry e := by
  rw [State.afterPayload, if_neg h]

/-- The last payload write of a record without a cause issues its header write (R27, R30). -/
theorem afterPayload_stored (s : State) {e : Entry} (h : e.writesOutstanding = 0) (hc : e.cause = none) :
    s.afterPayload e = (s.setEntry { e with state := .sealing }).present
      [headerWrite (s.queue e.queue).config { e with state := .sealing }] := by
  simp only [State.afterPayload, h, if_true, hc]

/-- The last payload write of a record with a cause abandons it (R28). -/
theorem afterPayload_failed (s : State) {e : Entry} {c : AbandonCause} (h : e.writesOutstanding = 0) (hc : e.cause = some c) :
    s.afterPayload e = s.settleEntry { e with state := .discarding } := by
  simp only [State.afterPayload, h, if_true, hc]

theorem payloadCompletes_ok (s : State) {e : Entry} (h : e.state = .writing) :
    s.payloadCompletes e .ok = s.afterPayload { e with writesOutstanding := e.writesOutstanding - 1 } := by
  simp only [State.payloadCompletes, h]

theorem payloadCompletes_error (s : State) {e : Entry} (h : e.state = .writing) : s.payloadCompletes e .error =
    s.afterPayload { e with
      writesOutstanding := e.writesOutstanding - 1, cause := some (e.cause.getD .payloadError) } := by
  simp only [State.payloadCompletes, h, recordCause_eq]

theorem payloadCompletes_discarding (s : State) {e : Entry} (h : e.state = .discarding) (status : MemStatus) :
    s.payloadCompletes e status = s.settleEntry { e with writesOutstanding := e.writesOutstanding - 1 } := by
  simp only [State.payloadCompletes, h]

/-- Settles O34. -/
theorem payloadWriteCompletionIsCounted : Obligations.PayloadWriteCompletionIsCounted := by
  have hfinish : ∀ {s u : State}, s.link.softReset = false → u.sys.sent = [] → u.link.softReset = s.link.softReset →
      u.finish = u := fun hr hs hl => finish_of_no_response _ hs (softResetDone_of_clear _ (hl.trans hr))
  refine ⟨?_, ?_, ?_⟩
  · intro s n r q p e ha ho he hs hr
    obtain ⟨-, rfl, rfl⟩ := entryAt_spec he
    have hexec : exec (.payloadWriteOk n) s = .next ((s.clearOutputs.numberFreed n).afterPayload
        { e with writesOutstanding := e.writesOutstanding - 1 }).finish := by
      rw [← payloadCompletes_ok _ hs, ← complete_payload ha ho he]
      rfl
    refine ⟨fun hw => ?_, fun hw hc hk => ?_⟩
    · have hleft : e.writesOutstanding - 1 ≠ 0 := by omega
      rw [hexec, afterPayload_of_outstanding _ (e := { e with writesOutstanding := e.writesOutstanding - 1 }) hleft, hw]
      exact congrArg _ (hfinish hr rfl rfl)
    · have hnone : e.writesOutstanding - 1 = 0 := by omega
      rw [hexec, afterPayload_stored _ (e := { e with writesOutstanding := e.writesOutstanding - 1 }) hnone hc,
        headerWrite_of_data _ (by exact hk), hw]
      exact congrArg _ (hfinish hr rfl rfl)
  · intro s n r q p e ha ho he hs hw hr
    have hexec : exec (.payloadWriteError n) s = .next ((s.clearOutputs.numberFreed n).payloadCompletes e .error).finish :=
      congrArg _ (complete_payload ha ho he .error)
    have hleft : e.writesOutstanding - 1 ≠ 0 := by omega
    rw [hexec, payloadCompletes_error _ hs, afterPayload_of_outstanding _ (e := { e with
      writesOutstanding := e.writesOutstanding - 1, cause := some (e.cause.getD .payloadError) }) hleft, hw]
    exact congrArg _ (hfinish hr rfl rfl)
  · intro s n r q p e ha ho he hs hlast hr
    have hcount : ∀ status, (s.clearOutputs.complete n status []) = (s.clearOutputs.numberFreed n).setEntry
        { e with writesOutstanding := e.writesOutstanding - 1 } := by
      intro status
      have hnot : e.beatsTaken ≠ e.words.val ∨ e.writesOutstanding - 1 ≠ 0 := hlast.imp id (fun hw => by omega)
      rw [complete_payload ha ho he, payloadCompletes_discarding _ hs,
        settleEntry_of_not_ready _ (e := { e with writesOutstanding := e.writesOutstanding - 1 }) hnot]
      exact hfinish hr rfl rfl
    exact ⟨congrArg _ (hcount .ok), congrArg _ (hcount .error)⟩

end Sys2Proof.Machine.Laws

namespace Sys2Proof.Machine.Laws

open Sys2Proof Sys2Proof.Machine

/-! ### Answers to writes whose beats are in (R138) -/

theorem answer_of_writeReady {s : State} {r : Requester} {t : Tag} (h : s.writeReady r t) (status : Status)
    (reason : Option Reason) (data : List Word) : s.answer r t status reason data = s.respondedTo r t status [] := by
  obtain ⟨x, hx, hdir, hrec, hans⟩ := h
  have hdata : answerData x.request status data = [] := by simp only [answerData, hdir]
  rw [answer_sent hx hans (by simp [Transaction.beatsIn, hrec]), hdata]
  rfl

theorem decline_of_writeReady {s : State} {r : Requester} {t : Tag} (h : s.writeReady r t) (l : LogEntry) :
    s.decline r t l = (s.respondedTo r t .decline []).appendLog l :=
  answer_of_writeReady (s := s.appendLog l) h .decline (some l.reason) []

theorem answerStored_data {s : State} {e : Entry} (hk : e.kind = .data) (h : s.writeReady e.requester e.tag) :
    s.answerStored e = s.respondedTo e.requester e.tag .ok [] := by
  rw [State.answerStored, hk]
  exact answer_of_writeReady h .ok none []

theorem answerStored_filler (s : State) {e : Entry} (hk : e.kind = .filler) : s.answerStored e = s := by
  rw [State.answerStored, hk]

theorem declineHeader_data {s : State} {e : Entry} (hk : e.kind = .data) (h : s.writeReady e.requester e.tag) :
    s.declineHeader e = (s.respondedTo e.requester e.tag .decline []).appendLog (headerWriteLogEntry e) := by
  rw [State.declineHeader, hk]
  exact decline_of_writeReady h _

theorem declineHeader_filler (s : State) {e : Entry} (hk : e.kind = .filler) :
    s.declineHeader e = s.appendLog (headerWriteLogEntry e) := by
  rw [State.declineHeader, hk]
  rfl

/-! ### Entries that go -/

theorem entriesOf_entryGone (s : State) (q : QueueId) (p : Position) :
    (s.entryGone q p).entriesOf q = (s.entriesOf q).filter (fun y => decide (y.start ≠ p)) := by
  simp only [State.entriesOf, State.entryGone, withReservations_reservations, List.filter_filter]
  refine List.filter_congr (fun y _ => ?_)
  by_cases hq : y.queue = q <;> simp [hq]

theorem ownsNone_iff (s : State) (q : QueueId) : s.ownsNone q = true ↔ s.entriesOf q = [] := by
  simp [State.ownsNone]

theorem ownsNone_entryGone (s : State) (q : QueueId) (p : Position) :
    (s.entryGone q p).ownsNone q = true ↔ s.onlyEntryAt q p := by
  rw [ownsNone_iff, entriesOf_entryGone, List.filter_eq_nil_iff]
  simp [State.onlyEntryAt]

theorem arrived_eq_atStopped {x : Queue} (hp : x.pushWaiters = []) (hv : x.popWaiters = []) : x.arrived = x.atStopped := by
  rw [Queue.arrived, Queue.atStopped, hp, hv]

/-- An entry of a STOPPING queue goes, with no request waiting: the queue arrives at STOPPED when nothing of it is left (R43,
R49, R96, R97). -/
theorem entryGone_in_stopping {s : State} {q : QueueId} (p : Position) (hs : (s.queue q).state = .stopping)
    (hw : ∀ k, (s.queue k).pushWaiters = []) (hv : (s.queue q).popWaiters = []) :
    (¬(s.onlyEntryAt q p ∧ (s.queue q).popEntries = []) → (s.entryGone q p).entryFreed.testStop q = s.entryGone q p) ∧
      (s.onlyEntryAt q p → (s.queue q).popEntries = [] →
        (s.entryGone q p).entryFreed.testStop q = (s.entryGone q p).setQueue q (s.queue q).atStopped) := by
  rw [entryFreed_of_no_waiter (s := s.entryGone q p) hw]
  have hstop := stopComplete_iff (s.entryGone q p) q
  rw [ownsNone_entryGone] at hstop
  obtain ⟨hd, he⟩ | ⟨hd, he⟩ := testStop_cases (s.entryGone q p) q
  · rw [he]
    refine ⟨fun _ => rfl, fun ho hp => ?_⟩
    rw [hstop.2 ⟨hs, ho, hp⟩] at hd
    cases hd
  · rw [he]
    refine ⟨fun hn => absurd (hstop.1 hd).2 hn, fun _ _ => ?_⟩
    rw [← arrived_eq_atStopped (hw q) hv]
    rfl

/-! ### Header writes in STOPPING -/

theorem headerCompletes_ok_stopping {s : State} {e : Entry} (h : e.state = .sealing)
    (hs : (s.queue e.queue).state = .stopping) : s.headerCompletes e .ok =
      ((s.answerStored e).entryGone e.queue e.start).entryFreed.testStop e.queue := by
  simp only [State.headerCompletes, h, State.headerOk, hs, if_true, freeEntry_eq_entryGone]

theorem headerCompletes_error_stopping {s : State} {e : Entry} (h : e.state = .sealing)
    (hs : (s.queue e.queue).state = .stopping) : s.headerCompletes e .error =
      ((s.declineHeader e).entryGone e.queue e.start).entryFreed.testStop e.queue := by
  simp only [State.headerCompletes, h, State.headerError, hs, if_true, freeEntry_eq_entryGone]

/-- The course of a header write completion in STOPPING, once its producer has been answered. -/
theorem answered_entryGone_in_stopping {s answered : State} {q : QueueId} (p : Position) (ha : AnswersOnly s answered)
    (hs : (s.queue q).state = .stopping) (hw : ∀ k, (s.queue k).pushWaiters = []) (hv : (s.queue q).popWaiters = [])
    (harr : s.sys.arrivals = []) (hreset : s.link.softReset = false) :
    (¬(s.onlyEntryAt q p ∧ (s.queue q).popEntries = []) →
      ((answered.entryGone q p).entryFreed.testStop q).finish = answered.entryGone q p) ∧
    (s.onlyEntryAt q p → (s.queue q).popEntries = [] → ((answered.entryGone q p).entryFreed.testStop q).finish =
      (answered.entryGone q p).setQueue q (s.queue q).atStopped) := by
  have hq := ha.queue
  have honly : answered.onlyEntryAt q p ↔ s.onlyEntryAt q p := by simp only [State.onlyEntryAt, ha.entriesOf]
  obtain ⟨hmore, hlast⟩ := entryGone_in_stopping (s := answered) p (by rw [hq, hs]) (fun k => by rw [hq, hw]) (by rw [hq, hv])
  rw [honly, hq] at hmore hlast
  have hend : ∀ x, ((answered.entryGone q p).setQueue q x).finish = (answered.entryGone q p).setQueue q x :=
    fun x => finish_of_no_arrival _ (ha.arrivals.trans harr) (by rw [setQueue_link]; exact ha.link ▸ hreset)
  refine ⟨fun h => ?_, fun ho hp => ?_⟩
  · rw [hmore h]
    exact finish_of_no_arrival _ (ha.arrivals.trans harr) (ha.link ▸ hreset)
  · rw [hlast ho hp, hend]

/-- Settles O37: `gone` is what becomes of the queue, the same whichever answer the producer has had. -/
theorem headerWriteInStoppingFreesTheEntry : Obligations.HeaderWriteInStoppingFreesTheEntry := by
  intro s n r q p e ha ho he hseal hs hw hv harr hreset
  obtain ⟨-, rfl, rfl⟩ := entryAt_spec he
  have hok : exec (.headerWriteOk n) s = .next
      ((((s.clearOutputs.numberFreed n).answerStored e).entryGone e.queue e.start).entryFreed.testStop e.queue).finish := by
    rw [← headerCompletes_ok_stopping (s := s.clearOutputs.numberFreed n) hseal hs, ← complete_header ha ho he]
    rfl
  have herror : exec (.headerWriteError n) s = .next
      ((((s.clearOutputs.numberFreed n).declineHeader e).entryGone e.queue e.start).entryFreed.testStop e.queue).finish := by
    rw [← headerCompletes_error_stopping (s := s.clearOutputs.numberFreed n) hseal hs, ← complete_header ha ho he]
    rfl
  have houtcomes : ∀ gone : State → State, (∀ u r t st d, gone (State.respondedTo u r t st d) = (gone u).respondedTo r t st d) →
      (∀ u l, gone (State.appendLog u l) = (gone u).appendLog l) →
      (∀ u, AnswersOnly (s.clearOutputs.numberFreed n) u →
        ((u.entryGone e.queue e.start).entryFreed.testStop e.queue).finish = gone u) →
      (e.kind = .filler → exec (.headerWriteOk n) s = .next (gone (s.clearOutputs.numberFreed n)) ∧
        exec (.headerWriteError n) s = .next ((gone (s.clearOutputs.numberFreed n)).appendLog (headerWriteLogEntry e))) ∧
      (e.kind = .data → s.writeReady e.requester e.tag →
        exec (.headerWriteOk n) s = .next ((gone (s.clearOutputs.numberFreed n)).respondedTo e.requester e.tag .ok []) ∧
          exec (.headerWriteError n) s = .next (((gone (s.clearOutputs.numberFreed n)).respondedTo e.requester e.tag .decline
            []).appendLog (headerWriteLogEntry e))) := by
    intro gone hrespond hlog hgone
    rw [hok, herror, hgone _ (answersOnly_answerStored _ e), hgone _ (answersOnly_declineHeader _ e)]
    refine ⟨fun hk => ?_, fun hk hready => ?_⟩
    · rw [answerStored_filler _ hk, declineHeader_filler _ hk, hlog]
      exact ⟨rfl, rfl⟩
    · rw [answerStored_data (s := s.clearOutputs.numberFreed n) hk hready,
        declineHeader_data (s := s.clearOutputs.numberFreed n) hk hready, hlog, hrespond, hrespond]
      exact ⟨rfl, rfl⟩
  have hgone := fun u hu => answered_entryGone_in_stopping (s := s.clearOutputs.numberFreed n) (answered := u) (q := e.queue)
    e.start hu hs hw hv harr hreset
  by_cases hlast : s.onlyEntryAt e.queue e.start ∧ (s.queue e.queue).popEntries = []
  · exact ⟨_, fun hn => absurd hlast hn, fun _ _ => rfl, houtcomes
      (fun u => (u.entryGone e.queue e.start).setQueue e.queue (s.queue e.queue).atStopped) (fun _ _ _ _ _ => rfl)
      (fun _ _ => rfl) (fun u hu => (hgone u hu).2 hlast.1 hlast.2)⟩
  · exact ⟨_, fun _ => rfl, fun h1 h2 => absurd ⟨h1, h2⟩ hlast, houtcomes (fun u => u.entryGone e.queue e.start)
      (fun _ _ _ _ _ => rfl) (fun _ _ => rfl) (fun u hu => (hgone u hu).1 hlast)⟩

end Sys2Proof.Machine.Laws

namespace Sys2Proof.Machine.Laws

open Sys2Proof Sys2Proof.Machine

/-! ### What follows a rewind (R45) -/

theorem setQueue_setQueue (s : State) (q : QueueId) (x y : Queue) : (s.setQueue q x).setQueue q y = s.setQueue q y := by
  simp [State.setQueue]

theorem PushesGranted.state {x y : Queue} (h : PushesGranted x y) : y.state = x.state := by
  cases h
  rfl

theorem PushesGranted.commit {x y : Queue} (h : PushesGranted x y) : y.commit = x.commit := by
  cases h
  rfl

theorem commitAttempt_of_no_closed {s : State} {q : QueueId}
    (h : ∀ k ∈ s.entriesOf q, k.start = (s.queue q).commit → k.state ≠ .closed) : s.commitAttempt q = s := by
  rw [State.commitAttempt, commitPasses_false h]
  rfl

theorem rewindGrants_of_no_waiter {s : State} (h : ∀ k, (s.queue k).pushWaiters = []) (q : QueueId) :
    s.rewindGrants q = s := by
  rw [State.rewindGrants, if_pos ((noPushWaiter_iff s).2 h)]

theorem useFree_granted {s t : State} (h : Granted s.useFree t) : Granted s t :=
  ⟨⟨h.only.arrivals, h.only.link, h.only.arbiterDue, h.only.pending⟩, h.entries, h.queues⟩

theorem GrantsOnly.noRequestNext {s t : State} (h : GrantsOnly s t) (k : s.noRequestNext) : t.noRequestNext := by
  rw [State.noRequestNext, h.pending]
  exact k

/-- With nothing stalled and no TAKE_REQUEST next, the grants after a rewind are the arbiter's run and the re-examination, in
either order (R45, R79). -/
theorem rewindGrants_cases {s : State} (ha : s.sys.arrivals = []) (hn : s.noRequestNext) (q : QueueId)
    (hw : ∃ k, (s.queue k).pushWaiters ≠ []) : s.rewindGrants q = s.useFree.arbitrate.reexaminePush q ∨
      s.rewindGrants q = (s.useFree.reexaminePush q).arbitrate := by
  have hsome : ¬s.noPushWaiter = true := by
    rw [noPushWaiter_iff]
    obtain ⟨k, hk⟩ := hw
    exact fun h => hk (h k)
  rw [State.rewindGrants, if_neg hsome]
  split
  · exact .inl (by rw [entryFreed_eq_arbitrate (s := s.useFree) ha hn])
  · have honly := (granted_reexaminePush s.useFree q).only
    exact .inr (by rw [entryFreed_eq_arbitrate (honly.arrivals.trans ha) (honly.noRequestNext hn)])

theorem granted_rewindGrants {s : State} (ha : s.sys.arrivals = []) (hn : s.noRequestNext) (q : QueueId) :
    Granted s (s.rewindGrants q) := by
  by_cases hw : ∀ k, (s.queue k).pushWaiters = []
  · rw [rewindGrants_of_no_waiter hw]
    exact .refl s
  · obtain h | h := rewindGrants_cases ha hn q (not_forall.1 hw)
    · rw [h]
      exact useFree_granted ((granted_arbitrate _).trans (granted_reexaminePush _ q))
    · rw [h]
      exact useFree_granted ((granted_reexaminePush _ q).trans (granted_arbitrate _))

/-- Grants make no CLOSED entry, and leave commit where it is. -/
theorem Granted.no_closed {s t : State} (h : Granted s t) {q : QueueId}
    (hc : ∀ k ∈ s.entriesOf q, k.start = (s.queue q).commit → k.state ≠ .closed) :
    ∀ k ∈ t.entriesOf q, k.start = (t.queue q).commit → k.state ≠ .closed := by
  obtain ⟨-, ⟨new, hnew, hfill⟩, hq⟩ := h
  intro k hk hs
  rw [State.entriesOf, hnew, List.filter_append, List.mem_append] at hk
  rw [(hq q).commit] at hs
  obtain hk | hk := hk
  · exact hc k hk hs
  · rw [(hfill k (List.mem_filter.1 hk).1).1]
    decide

/-- Grants make no entry for a queue at which no push waits. -/
theorem Granted.entriesOf {s t : State} (h : Granted s t) {q : QueueId} (hw : (s.queue q).pushWaiters = []) :
    t.entriesOf q = s.entriesOf q := by
  obtain ⟨-, ⟨new, hnew, hwaits⟩, -⟩ := h
  have hnone : new.filter (fun k => decide (k.queue = q)) = [] := by
    refine List.filter_eq_nil_iff.2 (fun k hk hq => (hwaits k hk).2 ?_)
    rw [of_decide_eq_true hq, hw]
  rw [State.entriesOf, hnew, List.filter_append, hnone, List.append_nil]
  rfl

theorem reexaminePop_of_no_waiter {s : State} {q : QueueId} (h : (s.queue q).popWaiters = []) : s.reexaminePop q = s := by
  unfold State.reexaminePop
  rw [h]
  split <;> rfl

/-- The last entry of a queue that is not DRAINING, or that owns another one, starts nothing. -/
theorem lastEntryGone_of_not {s : State} {q : QueueId} (h : ¬((s.queue q).state = .draining ∧ s.ownsNone q = true)) :
    s.lastEntryGone q = s := by
  rw [State.lastEntryGone, if_neg h]

/-- After the last entry of a DRAINING queue: the re-examination, and the arrival at STOPPED (R45, R80, R93, R97). -/
theorem lastEntryGone_of_last {s : State} {q : QueueId} (hs : (s.queue q).state = .draining) (ho : s.ownsNone q = true)
    (hp : (s.queue q).pushWaiters = []) :
    (((s.reexaminePop q).queue q).popEntries = [] ∧ ((s.reexaminePop q).queue q).visible = 0 →
      s.lastEntryGone q = (s.reexaminePop q).setQueue q ((s.reexaminePop q).queue q).atStopped) ∧
    (¬(((s.reexaminePop q).queue q).popEntries = [] ∧ ((s.reexaminePop q).queue q).visible = 0) →
      s.lastEntryGone q = s.reexaminePop q) := by
  have hserved := popsServed_reexaminePop s q
  have hstate : ((s.reexaminePop q).queue q).state = .draining := hserved.queue.state.trans hs
  have hnone : (s.reexaminePop q).ownsNone q = true := by
    rw [State.ownsNone, State.entriesOf, hserved.reservations]
    exact ho
  rw [State.lastEntryGone, if_pos ⟨hs, ho⟩]
  obtain ⟨hd, he⟩ | ⟨hd, he⟩ := testDrain_cases (s.reexaminePop q) q
  · rw [he]
    refine ⟨fun h => ?_, fun _ => rfl⟩
    rw [(drainComplete_iff _ _).2 ⟨hstate, hnone, h⟩] at hd
    cases hd
  · rw [he, arrived_eq_atStopped (hserved.queue.pushWaiters.trans hp)
      (no_popWaiter_of_drainComplete (reexaminePop_stops (.inr hs)) hd)]
    exact ⟨fun _ => rfl, fun h => absurd ((drainComplete_iff _ _).1 hd).2.2 h⟩

theorem grantsOnly_lastEntryGone (s : State) (q : QueueId) : GrantsOnly s (s.lastEntryGone q) := by
  unfold State.lastEntryGone
  split
  · have hserved := (popsServed_reexaminePop s q).only
    obtain ⟨-, he⟩ | ⟨-, he⟩ := testDrain_cases (s.reexaminePop q) q
    · rwa [he]
    · rw [he]
      exact ⟨hserved.arrivals, hserved.link, hserved.arbiterDue, hserved.pending⟩
  · exact ⟨rfl, rfl, rfl, rfl⟩

/-! ### Resolution (R43) -/

/-- The bridge when the producer of an abandoned record has its answer (R43). -/
def answeredAbandoned (s : State) (e : Entry) : State := (s.respondedTo e.requester e.tag .decline []).appendLog e.abandonedLog

/-- The bridge when a record's space and sequence number have been given back (R44). -/
def givenBack (s : State) (e : Entry) : State :=
  (s.entryGone e.queue e.start).setQueue e.queue { s.queue e.queue with reserve := e.start, nextSequence := e.sequence }

theorem rewind_eq (s : State) (e : Entry) : s.rewind e =
    (((givenBack s e).rewindGrants e.queue).commitAttempt e.queue).lastEntryGone e.queue := by
  rw [State.rewind, freeEntry_eq_entryGone]
  rfl

theorem setEntry_setEntry (s : State) {x y : Entry} (hq : y.queue = x.queue) (hp : y.start = x.start) :
    (s.setEntry x).setEntry y = s.setEntry y := by
  have hsame : ∀ z, y.same z = x.same z := fun z => by rw [same_eq, same_eq, hq, hp]
  have hx : x.same x = true := by simp [same_eq]
  simp only [State.setEntry, withReservations_reservations, List.map_map, hsame]
  refine congrArg s.withReservations (List.map_congr_left (fun z _ => ?_))
  cases hz : x.same z <;> simp [hz, hx]

theorem setEntry_entryGone (s : State) (x : Entry) :
    (s.setEntry x).entryGone x.queue x.start = s.entryGone x.queue x.start := by
  have hx : x.same x = true := by simp [same_eq]
  rw [← freeEntry_eq_entryGone, ← freeEntry_eq_entryGone]
  simp only [State.setEntry, State.freeEntry, withReservations_reservations, List.filter_map]
  have hcomp : (fun y => !x.same y) ∘ (fun y => if x.same y then x else y) = fun y => !x.same y := by
    funext z
    cases hz : x.same z <;> simp [hz, hx]
  rw [hcomp]
  refine congrArg s.withReservations ?_
  rw [List.map_congr_left (g := id) (fun z hz => ?_), List.map_id]
  have := (List.mem_filter.1 hz).2
  rw [Bool.not_eq_true'] at this
  simp [this]

theorem isYoungest_iff (s : State) (e : Entry) :
    s.isYoungest e = true ↔ advance e.start (recordWords e.words) = (s.queue e.queue).reserve := decide_eq_true_iff

/-- An entry that is ready is resolved by the first case of R43 that applies. -/
theorem settleEntry_of_ready {s : State} {e : Entry} (hr : e.ready = true) (hw : s.writeReady e.requester e.tag) :
    s.settleEntry e =
      if (s.queue e.queue).state = .stopping then
        ((answeredAbandoned s e).entryGone e.queue e.start).entryFreed.testStop e.queue
      else if advance e.start (recordWords e.words) = (s.queue e.queue).reserve then
        (((givenBack (answeredAbandoned s e) e).rewindGrants e.queue).commitAttempt e.queue).lastEntryGone e.queue
      else ((answeredAbandoned s e).setEntry e.asFiller).presenting [fillerWrite (s.queue e.queue).config e] := by
  have hanswer : (s.setEntry e).decline e.requester e.tag e.abandonedLog = (answeredAbandoned s e).setEntry e :=
    decline_of_writeReady (s := s.setEntry e) hw _
  have hback : givenBack ((answeredAbandoned s e).setEntry e) e = givenBack (answeredAbandoned s e) e := by
    rw [givenBack, setEntry_entryGone]
    rfl
  have hfiller : ((answeredAbandoned s e).setEntry e).issueFiller e =
      ((answeredAbandoned s e).setEntry e.asFiller).presenting [fillerWrite (s.queue e.queue).config e] := by
    rw [State.issueFiller, setEntry_setEntry _ (x := e) (y := e.asFiller) rfl rfl]
    rfl
  rw [State.settleEntry, if_pos hr, State.resolve, hanswer, freeEntry_eq_entryGone, setEntry_entryGone, rewind_eq, hback, hfiller]
  have hyoung : (s.setEntry e).isYoungest e = true ↔
    advance e.start (recordWords e.words) = (s.queue e.queue).reserve := isYoungest_iff _ e
  by_cases hs : (s.queue e.queue).state = .stopping
  · rw [if_pos hs]
    exact if_pos hs
  · rw [if_neg hs]
    refine (if_neg hs).trans ?_
    by_cases hy : advance e.start (recordWords e.words) = (s.queue e.queue).reserve
    · rw [if_pos hy, if_pos (hyoung.2 hy)]
    · rw [if_neg hy, if_neg (fun h => hy (hyoung.1 h))]

end Sys2Proof.Machine.Laws

namespace Sys2Proof.Machine.Laws

open Sys2Proof Sys2Proof.Machine

/-! ### The course of a rewind (R44, R45) -/

theorem givenBack_queue_same (s : State) (e : Entry) :
    (givenBack s e).queue e.queue = { s.queue e.queue with reserve := e.start, nextSequence := e.sequence } :=
  setQueue_queue_same _ _ _

theorem givenBack_pushWaiters (s : State) (e : Entry) (k : QueueId) :
    ((givenBack s e).queue k).pushWaiters = (s.queue k).pushWaiters := by
  by_cases hk : k = e.queue
  · rw [hk, givenBack_queue_same]
  · exact congrArg Queue.pushWaiters (setQueue_queue_other (s := s.entryGone e.queue e.start) hk _)

theorem givenBack_ownsNone (s : State) (e : Entry) :
    (givenBack s e).ownsNone e.queue = true ↔ s.onlyEntryAt e.queue e.start := ownsNone_entryGone s e.queue e.start

/-- No entry at the commit position is CLOSED, but for one that starts at p: the premise under which the rewind of the entry at p
is followed by no commit. -/
def othersUnclosed (s : State) (q : QueueId) (p : Position) : Prop :=
  ∀ k ∈ s.entriesOf q, k.start = (s.queue q).commit → k.start = p ∨ k.state ≠ .closed

theorem givenBack_no_closed {s : State} {e : Entry} (h : othersUnclosed s e.queue e.start) :
    ∀ k ∈ (givenBack s e).entriesOf e.queue, k.start = ((givenBack s e).queue e.queue).commit → k.state ≠ .closed := by
  intro k hk hs
  rw [givenBack_queue_same] at hs
  have hk : k ∈ (s.entryGone e.queue e.start).entriesOf e.queue := hk
  rw [entriesOf_entryGone, List.mem_filter] at hk
  exact (h k hk.1 hs).resolve_left (of_decide_eq_true hk.2)

/-- The event after a rewind and its grants: no commit follows, and the last entry of a DRAINING queue starts the re-examination
of its pops and its arrival at STOPPED (R45). -/
theorem commitAttempt_lastEntryGone_after_grants {s g : State} {e : Entry} (hg : Granted (givenBack s e) g)
    (hc : othersUnclosed s e.queue e.start)
    (hp : (s.queue e.queue).state = .draining → (s.queue e.queue).pushWaiters = []) :
    (¬((s.queue e.queue).state = .draining ∧ s.onlyEntryAt e.queue e.start) →
      (g.commitAttempt e.queue).lastEntryGone e.queue = g) ∧
    ((s.queue e.queue).state = .draining ∧ s.onlyEntryAt e.queue e.start →
      let v := g.reexaminePop e.queue
      ((v.queue e.queue).popEntries = [] ∧ (v.queue e.queue).visible = 0 →
        (g.commitAttempt e.queue).lastEntryGone e.queue = v.setQueue e.queue (v.queue e.queue).atStopped) ∧
      (¬((v.queue e.queue).popEntries = [] ∧ (v.queue e.queue).visible = 0) →
        (g.commitAttempt e.queue).lastEntryGone e.queue = v)) := by
  have hstate : (g.queue e.queue).state = (s.queue e.queue).state := by rw [(hg.queues e.queue).state, givenBack_queue_same]
  have hnone : (s.queue e.queue).state = .draining → (g.ownsNone e.queue = true ↔ s.onlyEntryAt e.queue e.start) := by
    intro hd
    have hw := (givenBack_pushWaiters s e e.queue).trans (hp hd)
    rw [← givenBack_ownsNone, ownsNone_iff, ownsNone_iff, hg.entriesOf hw]
  rw [commitAttempt_of_no_closed (hg.no_closed (givenBack_no_closed hc))]
  refine ⟨fun h => lastEntryGone_of_not (fun hl => h ?_), fun h => lastEntryGone_of_last (hstate.trans h.1) ((hnone h.1).2 h.2) ?_⟩
  · have hd := hstate.symm.trans hl.1
    exact ⟨hd, (hnone hd).1 hl.2⟩
  · exact (hg.queues e.queue).no_waiter ((givenBack_pushWaiters s e e.queue).trans (hp h.1))

/-- The bridge after the rewind of the entry e and all that follows it. -/
def rewindDone (s : State) (e : Entry) : State :=
  (((givenBack s e).rewindGrants e.queue).commitAttempt e.queue).lastEntryGone e.queue

theorem finish_rewindDone {s : State} {e : Entry} (hg : Granted (givenBack s e) ((givenBack s e).rewindGrants e.queue))
    (hc : othersUnclosed s e.queue e.start) (ha : s.sys.arrivals = []) (hr : s.link.softReset = false) :
    (rewindDone s e).finish = rewindDone s e := by
  rw [rewindDone, commitAttempt_of_no_closed (hg.no_closed (givenBack_no_closed hc))]
  have honly := hg.only.trans (grantsOnly_lastEntryGone _ e.queue)
  exact finish_of_no_arrival _ (honly.arrivals.trans ha) (by rw [honly.link]; exact hr)

theorem rewindGrants_givenBack_of_no_waiter {s : State} {e : Entry} (hw : ∀ k, (s.queue k).pushWaiters = []) :
    (givenBack s e).rewindGrants e.queue = givenBack s e :=
  rewindGrants_of_no_waiter (fun k => (givenBack_pushWaiters s e k).trans (hw k)) _

/-- A rewind with no push waiting, and no pop waiting where the queue is DRAINING (R44, R93, R97). -/
theorem rewindDone_of_no_waiter {s : State} {e : Entry} (hw : ∀ k, (s.queue k).pushWaiters = [])
    (hv : (s.queue e.queue).state = .draining → (s.queue e.queue).popWaiters = []) (hc : othersUnclosed s e.queue e.start) :
    (¬s.endsWith e.queue e.start → rewindDone s e = givenBack s e) ∧
      (s.endsWith e.queue e.start →
        rewindDone s e = (s.entryGone e.queue e.start).setQueue e.queue (s.queue e.queue).atStopped) := by
  obtain ⟨hmore, hlast⟩ := commitAttempt_lastEntryGone_after_grants (.refl (givenBack s e)) hc (fun _ => hw e.queue)
  have hpop : (s.queue e.queue).state = .draining → (givenBack s e).reexaminePop e.queue = givenBack s e :=
    fun hd => reexaminePop_of_no_waiter (by rw [givenBack_queue_same]; exact hv hd)
  rw [rewindDone, rewindGrants_givenBack_of_no_waiter hw]
  refine ⟨fun h => ?_, fun ⟨hd, ho, hends⟩ => ?_⟩
  · by_cases hl : (s.queue e.queue).state = .draining ∧ s.onlyEntryAt e.queue e.start
    · have := (hlast hl).2
      rw [hpop hl.1, givenBack_queue_same] at this
      exact this (fun hends => h ⟨hl.1, hl.2, hends⟩)
    · exact hmore hl
  · have := (hlast ⟨hd, ho⟩).1
    rw [hpop hd, givenBack_queue_same] at this
    rw [this hends, givenBack, setQueue_setQueue]
    rfl

/-- A rewind whatever waits (R45, R79, R80). -/
theorem afterRewind_rewindDone {s : State} {e : Entry} (hp : (s.queue e.queue).state = .draining → (s.queue e.queue).pushWaiters = [])
    (ha : s.sys.arrivals = []) (hn : s.noRequestNext) (hc : othersUnclosed s e.queue e.start) :
    (givenBack s e).afterRewind (rewindDone s e) e.queue
      ((s.queue e.queue).state = .draining ∧ s.onlyEntryAt e.queue e.start) := by
  have hg : Granted (givenBack s e) ((givenBack s e).rewindGrants e.queue) :=
    granted_rewindGrants (s := givenBack s e) ha hn e.queue
  exact ⟨_, fun hw => rewindGrants_of_no_waiter hw _, fun hw => rewindGrants_cases (s := givenBack s e) ha hn _ hw,
    commitAttempt_lastEntryGone_after_grants hg hc hp⟩

/-! ### The resolution of a ready entry, to the end of the event (R43) -/

section Ready

variable {s : State} {e : Entry} (hready : e.ready = true) (hw : s.writeReady e.requester e.tag)
  (ha : s.sys.arrivals = []) (hr : s.link.softReset = false)

include hready hw ha hr

/-- A ready entry that is not the youngest ends as a FILLER (R43 case 3). -/
theorem ready_becomes_filler (hs : (s.queue e.queue).state ≠ .stopping)
    (hy : advance e.start (recordWords e.words) ≠ (s.queue e.queue).reserve) : (s.settleEntry e).finish =
      ((answeredAbandoned s e).setEntry e.asFiller).presenting [fillerWrite (s.queue e.queue).config e] := by
  rw [settleEntry_of_ready hready hw, if_neg hs, if_neg hy]
  exact finish_of_no_arrival _ ha hr

/-- The youngest ready entry is rewound (R43 case 2, R44). -/
theorem ready_is_rewound (hs : (s.queue e.queue).state ≠ .stopping)
    (hy : advance e.start (recordWords e.words) = (s.queue e.queue).reserve) (hc : othersUnclosed s e.queue e.start)
    (h : (∀ k, (s.queue k).pushWaiters = []) ∨ s.noRequestNext) :
    (s.settleEntry e).finish = rewindDone (answeredAbandoned s e) e := by
  have hg : Granted (givenBack (answeredAbandoned s e) e) ((givenBack (answeredAbandoned s e) e).rewindGrants e.queue) := by
    obtain hpw | hn := h
    · rw [rewindGrants_givenBack_of_no_waiter (s := answeredAbandoned s e) hpw]
      exact .refl _
    · exact granted_rewindGrants (s := givenBack (answeredAbandoned s e) e) ha hn e.queue
  rw [settleEntry_of_ready hready hw, if_neg hs, if_pos hy]
  exact finish_rewindDone (s := answeredAbandoned s e) hg hc ha hr

theorem ready_is_rewound_of_no_waiter (hs : (s.queue e.queue).state ≠ .stopping)
    (hv : (s.queue e.queue).state = .draining → (s.queue e.queue).popWaiters = [])
    (hy : advance e.start (recordWords e.words) = (s.queue e.queue).reserve) (hpw : ∀ k, (s.queue k).pushWaiters = [])
    (hc : othersUnclosed s e.queue e.start) :
    (¬s.endsWith e.queue e.start → (s.settleEntry e).finish = givenBack (answeredAbandoned s e) e) ∧
      (s.endsWith e.queue e.start → (s.settleEntry e).finish =
        ((answeredAbandoned s e).entryGone e.queue e.start).setQueue e.queue (s.queue e.queue).atStopped) := by
  rw [ready_is_rewound hready hw ha hr hs hy hc (.inl hpw)]
  exact rewindDone_of_no_waiter (s := answeredAbandoned s e) hpw hv hc

theorem ready_afterRewind (hs : (s.queue e.queue).state ≠ .stopping)
    (hp : (s.queue e.queue).state = .draining → (s.queue e.queue).pushWaiters = [])
    (hy : advance e.start (recordWords e.words) = (s.queue e.queue).reserve) (hn : s.noRequestNext)
    (hc : othersUnclosed s e.queue e.start) : (givenBack (answeredAbandoned s e) e).afterRewind (s.settleEntry e).finish e.queue
      ((s.queue e.queue).state = .draining ∧ s.onlyEntryAt e.queue e.start) := by
  rw [ready_is_rewound hready hw ha hr hs hy hc (.inr hn)]
  exact afterRewind_rewindDone (s := answeredAbandoned s e) hp ha hn hc

/-- A ready entry of a STOPPING queue is freed (R43 case 1, R96, R97). -/
theorem ready_is_freed (hs : (s.queue e.queue).state = .stopping) (hpw : ∀ k, (s.queue k).pushWaiters = [])
    (hv : (s.queue e.queue).popWaiters = []) :
    (¬(s.onlyEntryAt e.queue e.start ∧ (s.queue e.queue).popEntries = []) →
      (s.settleEntry e).finish = (answeredAbandoned s e).entryGone e.queue e.start) ∧
    (s.onlyEntryAt e.queue e.start → (s.queue e.queue).popEntries = [] → (s.settleEntry e).finish =
      ((answeredAbandoned s e).entryGone e.queue e.start).setQueue e.queue (s.queue e.queue).atStopped) := by
  have hanswers : AnswersOnly s (answeredAbandoned s e) := ⟨rfl, rfl, rfl, rfl, rfl, rfl, rfl, rfl, rfl, rfl, rfl⟩
  rw [settleEntry_of_ready hready hw, if_pos hs]
  exact answered_entryGone_in_stopping e.start hanswers hs hpw hv ha hr

end Ready

end Sys2Proof.Machine.Laws

namespace Sys2Proof.Machine.Laws

open Sys2Proof Sys2Proof.Machine

/-! ### The outcomes of R43 -/

/-- What becomes of a bridge s whose entry e is ready: u is the bridge at the end of the event, `answered` the bridge when the
producer has its answer. -/
structure Resolved (s answered : State) (e : Entry) (u : State) : Prop where
  filler : (s.queue e.queue).state ≠ .stopping → advance e.start (recordWords e.words) ≠ (s.queue e.queue).reserve →
    u = (answered.setEntry e.asFiller).presenting [fillerWrite (s.queue e.queue).config e]
  rewound : (s.queue e.queue).state ≠ .stopping → ((s.queue e.queue).state = .draining → (s.queue e.queue).popWaiters = []) →
    advance e.start (recordWords e.words) = (s.queue e.queue).reserve → (∀ k, (s.queue k).pushWaiters = []) →
    othersUnclosed s e.queue e.start →
    (¬s.endsWith e.queue e.start → u = (answered.entryGone e.queue e.start).setQueue e.queue
      { s.queue e.queue with reserve := e.start, nextSequence := e.sequence }) ∧
    (s.endsWith e.queue e.start → u = (answered.entryGone e.queue e.start).setQueue e.queue (s.queue e.queue).atStopped)
  afterRewind : (s.queue e.queue).state ≠ .stopping →
    ((s.queue e.queue).state = .draining → (s.queue e.queue).pushWaiters = []) →
    advance e.start (recordWords e.words) = (s.queue e.queue).reserve → s.noRequestNext → othersUnclosed s e.queue e.start →
    ((answered.entryGone e.queue e.start).setQueue e.queue
      { s.queue e.queue with reserve := e.start, nextSequence := e.sequence }).afterRewind u e.queue
        ((s.queue e.queue).state = .draining ∧ s.onlyEntryAt e.queue e.start)
  freed : (s.queue e.queue).state = .stopping → (∀ k, (s.queue k).pushWaiters = []) → (s.queue e.queue).popWaiters = [] →
    (¬(s.onlyEntryAt e.queue e.start ∧ (s.queue e.queue).popEntries = []) → u = answered.entryGone e.queue e.start) ∧
    (s.onlyEntryAt e.queue e.start → (s.queue e.queue).popEntries = [] →
      u = (answered.entryGone e.queue e.start).setQueue e.queue (s.queue e.queue).atStopped)

theorem resolved_settleEntry {s : State} {e : Entry} (hready : e.ready = true) (hw : s.writeReady e.requester e.tag)
    (ha : s.sys.arrivals = []) (hr : s.link.softReset = false) :
    Resolved s (answeredAbandoned s e) e (s.settleEntry e).finish where
  filler := ready_becomes_filler hready hw ha hr
  rewound := ready_is_rewound_of_no_waiter hready hw ha hr
  afterRewind := ready_afterRewind hready hw ha hr
  freed := ready_is_freed hready hw ha hr

/-! ### Beats of abandoned records (R25, R40, R41) -/

/-- The entry after a beat that is poisoned, or that comes for an abandoned record. -/
def afterAbandonedBeat (e : Entry) : Entry :=
  if e.state = .filling then
    { e with beatsTaken := e.beatsTaken + 1, gathered := [], cause := some (e.cause.getD .poison) }
  else { e with beatsTaken := e.beatsTaken + 1 }

theorem afterAbandonedBeat_eq (e : Entry) : ∃ words cause, afterAbandonedBeat e =
    { e with beatsTaken := e.beatsTaken + 1, gathered := words, cause := cause } := by
  unfold afterAbandonedBeat
  split
  · exact ⟨_, _, rfl⟩
  · exact ⟨_, _, rfl⟩

theorem handBeat_abandoned (s : State) {e : Entry} {b : Beat}
    (h : e.state = .discarding ∨ (e.state = .filling ∧ b.poison = true)) :
    s.handBeat e b = s.settleEntry { afterAbandonedBeat e with state := .discarding } := by
  obtain hs | ⟨hs, hp⟩ := h
  · rw [handBeat_discarding _ _ hs, afterAbandonedBeat, if_neg (by rw [hs]; decide), ← hs]
  · rw [handBeat_poisoned _ hs hp, afterAbandonedBeat, if_pos hs, Entry.poisoned, recordCause_eq]

/-- An answer that frees the tracker entry leaves nothing of what was stored there. -/
theorem respondedTo_setTransaction (s : State) {x : Transaction} {r : Requester} {t : Tag} (hr : x.request.requester = r)
    (ht : x.request.tag = t) (status : Status) (data : List Word) :
    (s.setTransaction x).respondedTo r t status data = s.respondedTo r t status data := by
  have hx : x.named r t = true := (named_iff _ _ _).2 ⟨hr, ht⟩
  have hfilter : (s.setTransaction x).sys.tracker.filter (fun y => !y.named r t) =
      s.sys.tracker.filter (fun y => !y.named r t) := by
    simp only [State.setTransaction, hr, ht, withSys_sys]
    generalize s.sys.tracker = l
    induction l with
    | nil => rfl
    | cons y l ih => cases hy : y.named r t <;> simp [hy, hx, ih]
  simp only [State.respondedTo, hfilter]
  rfl

theorem fillingEntry_spec {s : State} {r : Requester} {t : Tag} {e : Entry} (h : s.fillingEntry r t = some e) :
    e.requester = r ∧ e.tag = t := by
  have hf := List.find?_some h
  simp only [decide_eq_true_eq] at hf
  exact ⟨hf.1, hf.2.1⟩

/-- Settles O33. -/
theorem readyRecordIsResolved : Obligations.ReadyRecordIsResolved := by
  intro s r t b x e hx hdir hm hans hlast hfill hstate hbeats hout ha hreset e' answered
  obtain ⟨words, cause, he'⟩ : ∃ words cause, e' = { e with beatsTaken := e.beatsTaken + 1, gathered := words, cause := cause } :=
    afterAbandonedBeat_eq e
  obtain ⟨hreq, htag⟩ := fillingEntry_spec hfill
  obtain ⟨hxreq, hxtag⟩ := transaction_named hx
  have hexec : exec (.writeBeat r t b) s =
      .next ((s.clearOutputs.setTransaction { x with received := x.received + 1 }).settleEntry
        { e' with state := .discarding }).finish := by
    rw [exec_writeBeat_handing b hx hm (by omega) hfill, handBeat_abandoned _ hstate]
    rfl
  have hready : (s.clearOutputs.setTransaction { x with received := x.received + 1 }).writeReady r t :=
    ⟨_, transaction_setTransaction_same (s := s.clearOutputs) hx hxreq hxtag, hdir, hlast, hans⟩
  clear_value e'
  subst he' hreq htag
  have hanswered : answeredAbandoned (s.clearOutputs.setTransaction { x with received := x.received + 1 })
      { e with state := .discarding, beatsTaken := e.beatsTaken + 1, gathered := words, cause := cause } = answered :=
    congrArg (fun u => State.appendLog u (abandonedLogEntry e cause))
      (respondedTo_setTransaction s.clearOutputs (x := { x with received := x.received + 1 }) hxreq hxtag .decline [])
  obtain ⟨hfiller, hrewound, hafter, hfreed⟩ := resolved_settleEntry
    (e := { e with state := .discarding, beatsTaken := e.beatsTaken + 1, gathered := words, cause := cause })
    ((ready_iff _).2 ⟨rfl, hbeats, hout⟩) hready ha hreset
  rw [hanswered] at hfiller hrewound hafter hfreed
  rw [hexec]
  refine ⟨fun hs hy => congrArg _ (hfiller hs hy), fun hs hv hy hpw hc => ?_,
    fun hs hp hy hn hc => ⟨_, rfl, hafter hs hp hy hn hc⟩, fun hs hpw hv => ?_⟩
  · obtain ⟨hmore, hends⟩ := hrewound hs hv hy hpw hc
    exact ⟨fun h => congrArg _ (hmore h), fun h => congrArg _ (hends h)⟩
  · obtain ⟨hmore, hgone⟩ := hfreed hs hpw hv
    exact ⟨fun h => congrArg _ (hmore h), fun ho hp => congrArg _ (hgone ho hp)⟩

/-! ### Payload writes of abandoned records (R28, R41) -/

/-- An abandoned entry whose payload writes have all completed. -/
def payloadDone (e : Entry) (cause : Option AbandonCause) : Entry :=
  { e with state := .discarding, writesOutstanding := 0, cause := cause }

/-- Settles O35. -/
theorem failedPayloadEndsInAFiller : Obligations.FailedPayloadEndsInAFiller := by
  intro s n r q p e hawaits howner hentry hone hbeats hw ha hreset answered filler rewound ended
  obtain ⟨-, rfl, rfl⟩ := entryAt_spec hentry
  have hzero : e.writesOutstanding - 1 = 0 := by omega
  have hresolved : ∀ cause, Resolved (s.clearOutputs.numberFreed n) (answered cause) (payloadDone e cause)
      ((s.clearOutputs.numberFreed n).settleEntry (payloadDone e cause)).finish :=
    fun cause => resolved_settleEntry (s := s.clearOutputs.numberFreed n) (e := payloadDone e cause)
      ((ready_iff _).2 ⟨rfl, hbeats, rfl⟩) hw ha hreset
  have herror : e.state = .writing → exec (.payloadWriteError n) s =
      .next ((s.clearOutputs.numberFreed n).settleEntry (payloadDone e (some (e.cause.getD .payloadError)))).finish := by
    intro hs
    refine congrArg _ ((complete_payload hawaits howner hentry .error).trans ?_)
    rw [payloadCompletes_error _ hs, hzero, afterPayload_failed _ (e := { e with
      writesOutstanding := 0, cause := some (e.cause.getD .payloadError) }) rfl rfl, payloadDone]
  have hok : e.state = .writing → ∀ cause, e.cause = some cause → exec (.payloadWriteOk n) s =
      .next ((s.clearOutputs.numberFreed n).settleEntry (payloadDone e (some cause))).finish := by
    intro hs cause hcause
    refine congrArg _ ((complete_payload hawaits howner hentry .ok).trans ?_)
    rw [payloadCompletes_ok _ hs, hzero,
      afterPayload_failed _ (e := { e with writesOutstanding := 0 }) rfl hcause, payloadDone, ← hcause]
  have hdiscarding : e.state = .discarding → ∀ status, (s.clearOutputs.complete n status []) =
      ((s.clearOutputs.numberFreed n).settleEntry (payloadDone e e.cause)).finish := by
    intro hs status
    rw [complete_payload hawaits howner hentry, payloadCompletes_discarding _ hs, hzero, payloadDone, ← hs]
  refine ⟨fun hwriting hs hy => ?_, fun hwriting hs hv hy hpw hc => ?_, fun hwriting hs hp hy hn hc => ?_,
    fun hdisc hs hpw hv c hcommand => ?_⟩
  · have hfiller := fun cause => (hresolved (some cause)).filler hs hy
    exact ⟨(herror hwriting).trans (congrArg _ (hfiller _)),
      fun cause hcause => (hok hwriting cause hcause).trans (congrArg _ (hfiller cause))⟩
  · have hback := fun cause => (hresolved (some cause)).rewound hs hv hy hpw hc
    exact ⟨fun h => ⟨(herror hwriting).trans (congrArg _ ((hback _).1 h)), fun cause hcause =>
        (hok hwriting cause hcause).trans (congrArg _ ((hback cause).1 h))⟩,
      fun h => ⟨(herror hwriting).trans (congrArg _ ((hback _).2 h)), fun cause hcause =>
        (hok hwriting cause hcause).trans (congrArg _ ((hback cause).2 h))⟩⟩
  · have hback := fun cause => (hresolved (some cause)).afterRewind hs hp hy hn hc
    exact ⟨⟨_, herror hwriting, hback _⟩, fun cause hcause => ⟨_, hok hwriting cause hcause, hback cause⟩⟩
  · obtain ⟨hmore, hgone⟩ := (hresolved e.cause).freed hs hpw hv
    have hexec : exec c s = .next ((s.clearOutputs.numberFreed n).settleEntry (payloadDone e e.cause)).finish := by
      obtain rfl | rfl := hcommand
      · exact congrArg _ (hdiscarding hdisc .ok)
      · exact congrArg _ (hdiscarding hdisc .error)
    rw [hexec]
    exact ⟨fun h => congrArg _ (hmore h), fun ho hp => congrArg _ (hgone ho hp)⟩

end Sys2Proof.Machine.Laws

namespace Sys2Proof.Machine.Laws

open Sys2Proof Sys2Proof.Machine

/-! ### The consequences of a commit advance (R35) -/

theorem finish_of_grantsOnly {s t : State} (h : GrantsOnly s t) (ha : s.sys.arrivals = []) (hr : s.link.softReset = false) :
    t.finish = t := finish_of_no_arrival _ (h.arrivals.trans ha) (by rw [h.link]; exact hr)

theorem noticeCheck_visible (s : State) (q : QueueId) : ((s.noticeCheck q).queue q).visible = (s.queue q).visible := by
  obtain ⟨armed, ns, hn⟩ := noticeCheck_queue_same s q
  rw [hn]
  rfl

theorem noticeCheck_pushWaiters (s : State) (q k : QueueId) :
    ((s.noticeCheck q).queue k).pushWaiters = (s.queue k).pushWaiters := by
  obtain ⟨-, h⟩ | ⟨-, h⟩ := noticeCheck_cases s q
  · rw [h]
  · rw [h, present_queue, setQueue_queue]
    split
    next hk => rw [hk]
    · rfl

theorem noticeCheck_of_not_fires {s : State} {q : QueueId} (h : ¬((s.queue q).noticeArmed = true ∧
    (s.queue q).config.threshold ≠ 0 ∧ (s.queue q).config.threshold ≤ (s.queue q).visible ∧ (s.queue q).notices.length < 2)) :
    s.noticeCheck q = s := by
  obtain ⟨-, he⟩ | ⟨hf, -⟩ := noticeCheck_cases s q
  · exact he
  · exact absurd ((noticeFires_iff _).1 hf) h

theorem noticeCheck_of_fires {s : State} {q : QueueId} (h : (s.queue q).noticeArmed = true ∧
    (s.queue q).config.threshold ≠ 0 ∧ (s.queue q).config.threshold ≤ (s.queue q).visible ∧ (s.queue q).notices.length < 2) :
    s.noticeCheck q = (s.setQueue q { s.queue q with
      noticeArmed := false, notices := (s.queue q).notices ++ [noticeRecordOf (s.queue q)] }).presenting
        [noticeWrite q (s.queue q)] := by
  obtain ⟨hf, -⟩ | ⟨-, he⟩ := noticeCheck_cases s q
  · rw [(noticeFires_iff _).2 h] at hf
    cases hf
  · exact he

/-- The notice check, with its condition written out (R109, R110). -/
theorem noticeCheck_eq (s : State) (q : QueueId) : s.noticeCheck q =
    if (s.queue q).noticeArmed = true ∧ (s.queue q).config.threshold ≠ 0 ∧ (s.queue q).config.threshold ≤ (s.queue q).visible ∧
        (s.queue q).notices.length < 2 then
      (s.setQueue q { s.queue q with
        noticeArmed := false, notices := (s.queue q).notices ++ [noticeRecordOf (s.queue q)] }).presenting
          [noticeWrite q (s.queue q)]
    else s := by
  split
  next hf => exact noticeCheck_of_fires hf
  next hf => exact noticeCheck_of_not_fires hf

theorem PopsServed.pushWaiters {s t : State} {q : QueueId} (h : PopsServed q s t) (k : QueueId) :
    (t.queue k).pushWaiters = (s.queue k).pushWaiters := by
  by_cases hk : k = q
  · rw [hk, h.queue.pushWaiters]
  · rw [h.others k hk]

/-- Where words are visible, a re-examination of the pops does not drain the queue: it grants none, or leaves a pop entry. -/
theorem testDrain_reexaminePop {s : State} {q : QueueId} (h : 0 < (s.queue q).visible) :
    (s.reexaminePop q).testDrain q = s.reexaminePop q := by
  obtain ⟨-, he⟩ | ⟨hd, -⟩ := testDrain_cases (s.reexaminePop q) q
  · exact he
  · obtain ⟨-, -, hnil, hvisible⟩ := (drainComplete_iff _ q).1 hd
    have hserved := (popsServed_reexaminePop s q).queue
    generalize (s.reexaminePop q).queue q = y at hserved hnil hvisible
    obtain ⟨gone, ws, p, new, armed, -, hread⟩ := hserved
    have hp := hread (List.append_eq_nil_iff.1 hnil).2
    rw [Queue.visible, hp] at hvisible
    rw [Queue.visible, hvisible] at h
    cases h

theorem commitConsequences_eq {s : State} {q : QueueId} (h : 0 < (s.queue q).visible) :
    s.commitConsequences q = ((s.noticeCheck q).reexaminePop q).entryFreed := by
  rw [State.commitConsequences, testDrain_reexaminePop (by rw [noticeCheck_visible]; exact h)]

theorem grantsOnly_check_reexamine (s : State) (q : QueueId) : GrantsOnly s ((s.noticeCheck q).reexaminePop q) :=
  (noticeCheck_frame s q).1.trans (popsServed_reexaminePop _ q).only

/-- With no push waiting, the notice check and the re-examination of the pops are all that follows a commit advance. -/
theorem finish_commitConsequences_of_no_waiter {s : State} {q : QueueId} (h : 0 < (s.queue q).visible)
    (hw : ∀ k, (s.queue k).pushWaiters = []) (ha : s.sys.arrivals = []) (hr : s.link.softReset = false) :
    (s.commitConsequences q).finish = (s.noticeCheck q).reexaminePop q := by
  have hnone : ∀ k, (((s.noticeCheck q).reexaminePop q).queue k).pushWaiters = [] := fun k => by
    rw [(popsServed_reexaminePop _ q).pushWaiters, noticeCheck_pushWaiters, hw]
  rw [commitConsequences_eq h, entryFreed_of_no_waiter hnone]
  exact finish_of_grantsOnly (grantsOnly_check_reexamine s q) ha hr

/-- With no TAKE_REQUEST next, the arbiter runs at the end of a commit advance (R35, R37). -/
theorem finish_commitConsequences_of_noRequestNext {s : State} {q : QueueId} (h : 0 < (s.queue q).visible)
    (hn : s.noRequestNext) (ha : s.sys.arrivals = []) (hr : s.link.softReset = false) :
    (s.commitConsequences q).finish = ((s.noticeCheck q).reexaminePop q).arbitrate := by
  have honly := grantsOnly_check_reexamine s q
  rw [commitConsequences_eq h, entryFreed_eq_arbitrate (honly.arrivals.trans ha) (honly.noRequestNext hn)]
  exact finish_of_grantsOnly (honly.trans (granted_arbitrate _).only) ha hr

/-! ### A header write that completes OK (R31) -/

/-- The bridge when the producer of a stored entry has its answer: a FILLER has none. -/
def answeredStored (s : State) (e : Entry) : State :=
  if e.kind = .data then s.respondedTo e.requester e.tag .ok [] else s

theorem answeredStored_cases (s : State) (e : Entry) :
    (e.kind ≠ .data ∧ answeredStored s e = s) ∨
      (e.kind = .data ∧ answeredStored s e = s.respondedTo e.requester e.tag .ok []) := by
  by_cases h : e.kind = .data
  · exact .inr ⟨h, if_pos h⟩
  · exact .inl ⟨h, if_neg h⟩

theorem answersOnly_answeredStored (s : State) (e : Entry) : AnswersOnly s (answeredStored s e) := by
  obtain ⟨-, h⟩ | ⟨-, h⟩ := answeredStored_cases s e
  · rw [h]
    exact .refl s
  · rw [h]
    exact ⟨rfl, rfl, rfl, rfl, rfl, rfl, rfl, rfl, rfl, rfl, rfl⟩

theorem answerStored_eq {s : State} {e : Entry} (h : e.kind = .data → s.writeReady e.requester e.tag) :
    s.answerStored e = answeredStored s e := by
  obtain ⟨hk, he⟩ | ⟨hk, he⟩ := answeredStored_cases s e
  · rw [he, State.answerStored]
    cases hkind : e.kind with
    | data => exact absurd hkind hk
    | filler => rfl
  · rw [he, answerStored_data hk (h hk)]

theorem mem_entriesOf_setEntry {s : State} {x k : Entry} {q : QueueId} (h : k ∈ (s.setEntry x).entriesOf q) :
    k = x ∨ (k ∈ s.entriesOf q ∧ ¬(k.queue = x.queue ∧ k.start = x.start)) := by
  obtain ⟨hmem, hq⟩ := List.mem_filter.1 h
  rw [State.setEntry, withReservations_reservations, List.mem_map] at hmem
  obtain ⟨y, hy, hk⟩ := hmem
  rw [same_eq] at hk
  by_cases hsame : y.queue = x.queue ∧ y.start = x.start
  · exact .inl ((if_pos (decide_eq_true hsame)).symm.trans hk).symm
  · rw [if_neg (by simpa using hsame)] at hk
    subst hk
    exact .inr ⟨List.mem_filter.2 ⟨hy, hq⟩, hsame⟩

/-- The entry of a queue that holds the commit position is the oldest, when it is stored. -/
theorem oldest_setEntry {s : State} {e x : Entry} (he : e ∈ s.reservations) (hq : x.queue = e.queue) (hp : x.start = e.start)
    (hc : e.start = (s.queue e.queue).commit) : (s.setEntry x).oldest e.queue = some x := by
  rw [State.oldest, setEntry_queue, State.setEntry, withReservations_reservations, ← hc]
  generalize s.reservations = l at he
  induction l with
  | nil => exact absurd he List.not_mem_nil
  | cons y l ih =>
    rw [List.map_cons, List.find?_cons, same_eq, hq, hp]
    by_cases hy : y.queue = e.queue ∧ y.start = e.start
    · simp [hy, hq, hp]
    · have hmem : e ∈ l := (List.mem_cons.1 he).resolve_left (fun h => hy (h ▸ ⟨rfl, rfl⟩))
      simp only [hy, decide_false, Bool.false_eq_true, if_false]
      exact ih hmem

/-- The bridge when the oldest entry is stored, its producer answered, and commit has passed it alone (R31, R33). -/
def committedPast (s : State) (e : Entry) : State :=
  answeredStored ((s.entryGone e.queue e.start).setQueue e.queue
    { s.queue e.queue with commit := advance e.start (recordWords e.words) }) e

theorem committedPast_queue (s : State) (e : Entry) (k : QueueId) : (committedPast s e).queue k =
    if k = e.queue then { s.queue e.queue with commit := advance e.start (recordWords e.words) } else s.queue k := by
  rw [committedPast, (answersOnly_answeredStored _ e).queue, setQueue_queue]
  rfl

theorem committedPast_queue_same (s : State) (e : Entry) : (committedPast s e).queue e.queue =
    { s.queue e.queue with commit := advance e.start (recordWords e.words) } := by
  rw [committedPast_queue, if_pos rfl]

theorem committedPast_pushWaiters (s : State) (e : Entry) (k : QueueId) :
    ((committedPast s e).queue k).pushWaiters = (s.queue k).pushWaiters := by
  rw [committedPast_queue]
  split
  next hk => rw [hk]
  · rfl

theorem committedPast_free (s : State) (e : Entry) (k : QueueId) :
    ((committedPast s e).queue k).free = (s.queue k).free := by
  rw [committedPast_queue]
  split
  next hk =>
    rw [hk]
    rfl
  · rfl

theorem committedPast_reservations (s : State) (e : Entry) :
    (committedPast s e).reservations = (s.entryGone e.queue e.start).reservations :=
  (answersOnly_answeredStored _ e).reservations

theorem committedPast_entriesOf (s : State) (e : Entry) :
    (committedPast s e).entriesOf e.queue = (s.entriesOf e.queue).filter (fun y => decide (y.start ≠ e.start)) := by
  rw [State.entriesOf, committedPast_reservations]
  exact entriesOf_entryGone s e.queue e.start

theorem grantsOnly_committedPast (s : State) (e : Entry) : GrantsOnly s (committedPast s e) := by
  have h := answersOnly_answeredStored ((s.entryGone e.queue e.start).setQueue e.queue
    { s.queue e.queue with commit := advance e.start (recordWords e.words) }) e
  exact ⟨h.arrivals, h.link, h.arbiterDue, h.pending⟩

theorem commitPasses_committedPast {s : State} {e : Entry}
    (hnext : ∀ k ∈ s.entriesOf e.queue, k.start = advance e.start (recordWords e.words) → k.state ≠ .closed) :
    (committedPast s e).commitPasses e.queue = false := by
  refine commitPasses_false (fun k hk hs => ?_)
  rw [committedPast_entriesOf, List.mem_filter] at hk
  rw [committedPast_queue_same] at hs
  exact hnext k hk.1 hs

theorem passClosed_oldest {s : State} {e : Entry} (he : e ∈ s.reservations) (hc : e.start = (s.queue e.queue).commit)
    (hnext : ∀ k ∈ s.entriesOf e.queue, k.start = advance e.start (recordWords e.words) → k.state ≠ .closed) :
    (answeredStored (s.setEntry { e with state := .closed }) e).passClosed e.queue s.reservations.length =
      committedPast s e := by
  have hanswers := answersOnly_answeredStored (s.setEntry { e with state := .closed }) e
  have hold : (answeredStored (s.setEntry { e with state := .closed }) e).oldest e.queue =
      some { e with state := .closed } := by
    rw [State.oldest, hanswers.reservations, hanswers.queue]
    exact oldest_setEntry (x := { e with state := .closed }) he rfl rfl hc
  have hpassed : ((answeredStored (s.setEntry { e with state := .closed }) e).freeEntry { e with state := .closed }).modifyQueue
      e.queue (fun y => { y with commit := advance e.start (recordWords e.words) }) = committedPast s e := by
    have hfree := setEntry_entryGone s { e with state := .closed }
    have hmove : ((s.setEntry { e with state := .closed }).entryGone e.queue e.start).modifyQueue e.queue
        (fun y => { y with commit := advance e.start (recordWords e.words) }) = (s.entryGone e.queue e.start).setQueue e.queue
          { s.queue e.queue with commit := advance e.start (recordWords e.words) } := by
      rw [hfree]
      rfl
    rw [freeEntry_eq_entryGone, committedPast, ← hmove]
    by_cases hk : e.kind = .data
    · simp only [answeredStored, hk, if_true]
      rfl
    · simp only [answeredStored, hk, if_false]
  obtain ⟨n, hn⟩ : ∃ n, s.reservations.length = n + 1 :=
    Nat.exists_eq_add_one.2 (List.length_pos_of_mem he)
  rw [hn, passClosed_succ hold rfl, ← passClosed_of_not_passes (commitPasses_committedPast hnext) n]
  exact congrArg (fun u => State.passClosed u e.queue n) hpassed

/-- A header write that completes OK in a queue that is not STOPPING. -/
theorem exec_headerWriteOk {s : State} {n : Nat} {r : MemRequest} {q : QueueId} {p : Position} {e : Entry} (ha : s.awaits n r)
    (ho : r.owner = .header q p) (he : s.entryAt q p = some e) (hseal : e.state = .sealing)
    (hs : (s.queue q).state ≠ .stopping) (hw : e.kind = .data → s.writeReady e.requester e.tag) :
    exec (.headerWriteOk n) s = .next ((answeredStored ((s.clearOutputs.numberFreed n).setEntry
      { e with state := .closed }) e).commitAttempt q).finish := by
  obtain ⟨-, rfl, rfl⟩ := entryAt_spec he
  have hanswer : ((s.clearOutputs.numberFreed n).setEntry { e with state := .closed }).answerStored e =
      answeredStored ((s.clearOutputs.numberFreed n).setEntry { e with state := .closed }) e := answerStored_eq hw
  have hnot : ((s.clearOutputs.numberFreed n).queue e.queue).state ≠ .stopping := hs
  refine congrArg _ ((complete_header ha ho he .ok).trans ?_)
  rw [← hanswer]
  simp only [State.headerCompletes, hseal, State.headerOk, hnot, if_false]

/-- The oldest entry, once stored, is passed with every CLOSED entry behind it (R33, R35). -/
theorem exec_headerWriteOk_commits {s : State} {n : Nat} {r : MemRequest} {q : QueueId} {p : Position} {e : Entry}
    (ha : s.awaits n r) (ho : r.owner = .header q p) (he : s.entryAt q p = some e) (hseal : e.state = .sealing)
    (hs : (s.queue q).state ≠ .stopping) (hp : p = (s.queue q).commit)
    (hw : e.kind = .data → s.writeReady e.requester e.tag) :
    exec (.headerWriteOk n) s = .next (((answeredStored ((s.clearOutputs.numberFreed n).setEntry
      { e with state := .closed }) e).passClosed q s.reservations.length).commitConsequences q).finish := by
  rw [exec_headerWriteOk ha ho he hseal hs hw]
  obtain ⟨hmem, rfl, rfl⟩ := entryAt_spec he
  have hanswers := answersOnly_answeredStored ((s.clearOutputs.numberFreed n).setEntry { e with state := .closed }) e
  have hpasses : (answeredStored ((s.clearOutputs.numberFreed n).setEntry { e with state := .closed }) e).commitPasses
      e.queue = true := by
    refine (commitPasses_iff _ _).2 ⟨{ e with state := .closed }, ?_, rfl⟩
    rw [State.oldest, hanswers.reservations, hanswers.queue]
    exact oldest_setEntry (s := s.clearOutputs.numberFreed n) (x := { e with state := .closed }) hmem rfl rfl hp
  have hlength : (answeredStored ((s.clearOutputs.numberFreed n).setEntry { e with state := .closed }) e).reservations.length =
      s.reservations.length := by
    rw [hanswers.reservations, State.setEntry, withReservations_reservations, List.length_map]
    rfl
  rw [State.commitAttempt, if_pos hpasses, hlength]

end Sys2Proof.Machine.Laws

namespace Sys2Proof.Machine.Laws

open Sys2Proof Sys2Proof.Machine

/-! ### Answers of held requests (R80, R83) -/

theorem transaction_respondedTo_other (s : State) {r r' : Requester} {t t' : Tag} (h : ¬(r' = r ∧ t' = t)) (status : Status)
    (data : List Word) : (s.respondedTo r t status data).transaction r' t' = s.transaction r' t' := by
  simp only [State.transaction, State.respondedTo, withSys_sys, List.find?_filter]
  refine congrArg (fun p => s.sys.tracker.find? p) (funext fun y => ?_)
  by_cases hy : y.named r' t' = true
  · obtain ⟨hr, ht⟩ := (named_iff _ _ _).1 hy
    have hnot : ¬(y.named r t = true) := fun hn => by
      obtain ⟨hr', ht'⟩ := (named_iff _ _ _).1 hn
      exact h ⟨hr.symm.trans hr', ht.symm.trans ht'⟩
    simp [hy, hnot]
  · simp [hy]

theorem beatsIn_iff (x : Transaction) :
    x.beatsIn = true ↔ x.request.direction = .read ∨ x.received = x.request.beats.val := by simp [Transaction.beatsIn]

/-- The answer of a held request: a read's is sent, and a write's is kept until its beats are in. -/
theorem answersHeld_declineQueue (s : State) (q : QueueId) (w : Waiter) (reason : Reason) :
    s.answersHeld (s.declineQueue q w.requester w.tag reason) w .decline reason := by
  intro x hx hnone
  have hx' : (s.appendLog { reason := reason, origin := some (w.requester, w.tag), queue := some q }).transaction
    w.requester w.tag = some x := hx
  obtain ⟨hreq, htag⟩ := transaction_named hx
  refine ⟨fun hread => ?_, fun hwrite hmore => ?_⟩
  · have hdata : answerData x.request .decline [] = List.replicate x.request.beats.val (BitVec.allOnes 64) := by
      simp only [answerData, hread]
      rfl
    rw [State.declineQueue, State.decline, answer_sent hx' hnone ((beatsIn_iff x).2 (.inl hread)), hdata, hreq, htag]
    exact List.mem_append_right _ (List.mem_singleton.2 rfl)
  · have hnot : x.beatsIn = false := by
      rw [← Bool.not_eq_true, beatsIn_iff, hwrite]
      rintro (h | h)
      · cases h
      · omega
    have hdata : answerData x.request .decline [] = [] := by simp only [answerData, hwrite]
    rw [State.declineQueue, State.decline, answer_kept hx' hnone hnot, hdata]
    exact ⟨_, transaction_mem (transaction_setTransaction_same (y := { x with
      answer := some ⟨.decline, some reason, []⟩, beatMode := some .dropping }) hx' hreq htag), rfl, rfl, rfl⟩

theorem answer_log (s : State) (r : Requester) (t : Tag) (status : Status) (reason : Option Reason) (data : List Word) :
    (s.answer r t status reason data).log = s.log := by
  unfold State.answer
  split
  · rfl
  · dsimp only
    split
    · rfl
    · split
      · rfl
      · rfl

/-- The producer of a stored record and a held request are answered apart from one another. -/
theorem answersHeld_of_answeredStored {s t : State} {e : Entry} {w : Waiter} {status : Status} {reason : Reason}
    (hw : e.kind = .data → s.writeReady e.requester e.tag) (h : (answeredStored s e).answersHeld t w status reason) :
    s.answersHeld t w status reason := by
  obtain ⟨-, he⟩ | ⟨hk, he⟩ := answeredStored_cases s e
  · rwa [he] at h
  · rw [he] at h
    intro x hx hnone
    by_cases hsame : w.requester = e.requester ∧ w.tag = e.tag
    · obtain ⟨y, hy, hdir, hrec, -⟩ := hw hk
      rw [hsame.1, hsame.2, hy] at hx
      cases hx
      refine ⟨fun hread => ?_, fun _ hmore => absurd hrec (Nat.ne_of_lt hmore)⟩
      rw [hdir] at hread
      cases hread
    · exact h x ((transaction_respondedTo_other s hsame .ok []).trans hx) hnone

/-! ### The head of the Pop Waiter list after a commit (R35, R80) -/

section PopHead

variable {s : State} {q : QueueId} {w : Waiter} {ws : List Waiter} (hw : (s.queue q).popWaiters = w :: ws)
  (hs : (s.queue q).state = .running ∨ (s.queue q).state = .draining)

include hw hs

theorem reexaminePop_grants_one (hws : ws = []) (hv : w.length.val ≤ (s.queue q).visible)
    (hp : (s.queue q).popEntries.length < 16) : s.reexaminePop q =
      (s.setQueue q { s.queue q with popWaiters := [] }).grantPop q w.requester w.tag w.length := by
  rw [reexaminePop_active hs, hw, State.reexaminePopFrom, if_pos ((popFits_iff _ _ _).2 ⟨hv, hp⟩), hws]
  rfl

theorem reexaminePop_leaves (hv : (s.queue q).visible < w.length.val)
    (hd : ¬((s.queue q).state = .draining ∧ s.ownsNone q = true)) : s.reexaminePop q = s := by
  rw [reexaminePop_active hs, hw, State.reexaminePopFrom, if_neg, if_neg]
  · exact fun h => hd ((drainedFor_iff _ _ _).1 h).2
  · exact fun h => Nat.not_le_of_lt hv ((popFits_iff _ _ _).1 h).1

theorem reexaminePop_declines_one (hws : ws = []) (hv : (s.queue q).visible < w.length.val)
    (hd : (s.queue q).state = .draining) (ho : s.ownsNone q = true) : s.reexaminePop q =
      (s.setQueue q { s.queue q with popWaiters := [] }).declineQueue q w.requester w.tag .drained := by
  rw [reexaminePop_active hs, hw, State.reexaminePopFrom, if_neg, if_pos ((drainedFor_iff _ _ _).2 ⟨hv, hd, ho⟩), hws]
  · rfl
  · exact fun h => Nat.not_le_of_lt hv ((popFits_iff _ _ _).1 h).1

end PopHead

/-! ### The one waiting push after a commit (R35, R36) -/

/-- The arbiter grants the one push that waits, and is done. -/
theorem arbitrate_grants_one {s : State} {q : QueueId} {w : Waiter} (hw : (s.queue q).pushWaiters = [w])
    (ho : ∀ k, k ≠ q → (s.queue k).pushWaiters = []) (hf : recordWords w.length ≤ (s.queue q).free)
    (hl : s.reservations.length < 48) : s.arbitrate =
      (s.setQueue q { s.queue q with pushWaiters := [] }).grantPush q w.requester w.tag w.length := by
  have hhead : s.eligibleHead q = some w := eligibleHead_eq_some.2 ⟨⟨[], hw⟩, hf⟩
  have hchoice : s.earliestEligible = some (q, w) := by
    cases he : s.earliestEligible with
    | none => rw [earliestEligible_eq_none.1 he q] at hhead; cases hhead
    | some c =>
      obtain ⟨k, v⟩ := c
      have hv := (earliestEligible_eq_some he).1
      by_cases hk : k = q
      · rw [hk, hhead] at hv
        rw [hk, Option.some.inj hv]
      · rw [eligibleHead_of_no_waiter (ho k hk)] at hv
        cases hv
  have hnone : ∀ k, ((s.grantHead q w).queue k).pushWaiters = [] := by
    intro k
    by_cases hk : k = q
    · rw [hk, grantHead_queue_same, hw]
      rfl
    · rw [grantHead_queue_other _ _ hk, ho k hk]
  rw [arbitrate_of_some hl hchoice, arbitrate_of_no_waiter hnone, State.grantHead, hw]
  rfl

end Sys2Proof.Machine.Laws

namespace Sys2Proof.Machine.Laws

open Sys2Proof Sys2Proof.Machine

/-! ### Header writes that complete OK (R31, R33, R35) -/

theorem committedPast_log (s : State) (e : Entry) : (committedPast s e).log = s.log := by
  unfold committedPast answeredStored
  split
  · rfl
  · rfl

theorem onlyEntryAt_iff_committedPast (s : State) (e : Entry) :
    (committedPast s e).ownsNone e.queue = true ↔ s.onlyEntryAt e.queue e.start := by
  rw [ownsNone_iff, committedPast_entriesOf, ← entriesOf_entryGone, ← ownsNone_iff, ownsNone_entryGone]

/-- The first statement of O36: an entry that is not the oldest is CLOSED, and nothing is committed. -/
theorem headerWriteOk_closes {s : State} {n : Nat} {r : MemRequest} {q : QueueId} {p : Position} {e : Entry} (ha : s.awaits n r)
    (ho : r.owner = .header q p) (he : s.entryAt q p = some e) (hseal : e.state = .sealing)
    (hs : (s.queue q).state ≠ .stopping) (hp : p ≠ (s.queue q).commit)
    (hc : ∀ k ∈ s.entriesOf q, k.start = (s.queue q).commit → k.state ≠ .closed) (harr : s.sys.arrivals = [])
    (hreset : s.link.softReset = false) (hw : e.kind = .data → s.writeReady e.requester e.tag) :
    exec (.headerWriteOk n) s =
      .next (answeredStored ((s.clearOutputs.numberFreed n).setEntry { e with state := .closed }) e) := by
  rw [exec_headerWriteOk ha ho he hseal hs hw]
  obtain ⟨-, rfl, rfl⟩ := entryAt_spec he
  have hanswers := answersOnly_answeredStored ((s.clearOutputs.numberFreed n).setEntry { e with state := .closed }) e
  have hopen : ∀ k ∈ (answeredStored ((s.clearOutputs.numberFreed n).setEntry { e with state := .closed }) e).entriesOf e.queue,
      k.start = ((answeredStored ((s.clearOutputs.numberFreed n).setEntry { e with state := .closed }) e).queue e.queue).commit →
      k.state ≠ .closed := by
    intro k hk hstart
    rw [hanswers.entriesOf] at hk
    rw [hanswers.queue] at hstart
    obtain rfl | ⟨hk, -⟩ := mem_entriesOf_setEntry hk
    · exact absurd hstart hp
    · exact hc k hk hstart
  rw [commitAttempt_of_no_closed hopen]
  exact congrArg _ (finish_of_no_arrival _ (hanswers.arrivals.trans harr) (by rw [hanswers.link]; exact hreset))

/-- The oldest entry, the next not being CLOSED: commit passes it alone. -/
theorem headerWriteOk_passes_one {s : State} {n : Nat} {r : MemRequest} {e : Entry} (ha : s.awaits n r)
    (ho : r.owner = .header e.queue e.start) (he : s.entryAt e.queue e.start = some e) (hseal : e.state = .sealing)
    (hs : (s.queue e.queue).state ≠ .stopping) (hp : e.start = (s.queue e.queue).commit)
    (hw : e.kind = .data → s.writeReady e.requester e.tag)
    (hnext : ∀ k ∈ s.entriesOf e.queue, k.start = advance e.start (recordWords e.words) → k.state ≠ .closed) :
    exec (.headerWriteOk n) s =
      .next ((committedPast (s.clearOutputs.numberFreed n) e).commitConsequences e.queue).finish := by
  rw [exec_headerWriteOk_commits ha ho he hseal hs hp hw]
  exact congrArg (fun u => Host.Outcome.next (State.commitConsequences u e.queue).finish)
    (passClosed_oldest (s := s.clearOutputs.numberFreed n) (entryAt_spec he).1 hp hnext)

/-- With a free entry gained, the Reservation Table is not full. -/
theorem committedPast_reservations_length {s : State} {e : Entry} (he : e ∈ s.reservations) (h : s.reservations.length ≤ 48) :
    (committedPast s e).reservations.length < 48 := by
  rw [committedPast_reservations]
  refine Nat.lt_of_lt_of_le ?_ h
  exact List.length_filter_lt_length_iff_exists.2 ⟨e, he, by simp⟩

/-- What follows the commit of the oldest entry, where no push waits. -/
theorem finish_commit_of_no_push {s : State} {e : Entry} (hv : 0 < ((committedPast s e).queue e.queue).visible)
    (hw : ∀ k, (s.queue k).pushWaiters = []) (ha : s.sys.arrivals = []) (hr : s.link.softReset = false) :
    ((committedPast s e).commitConsequences e.queue).finish =
      ((committedPast s e).noticeCheck e.queue).reexaminePop e.queue := by
  have honly := grantsOnly_committedPast s e
  exact finish_commitConsequences_of_no_waiter hv (fun k => (committedPast_pushWaiters s e k).trans (hw k))
    (honly.arrivals.trans ha) (by rw [honly.link]; exact hr)

/-- What follows the commit of the oldest entry, where one push waits and fits: it is handed the freed entry (R35, R36). -/
theorem finish_commit_of_one_push {s : State} {e : Entry} {k : QueueId} {w : Waiter} (he : e ∈ s.reservations)
    (hl : s.reservations.length ≤ 48) (hv : 0 < ((committedPast s e).queue e.queue).visible) (hn : s.noRequestNext)
    (ha : s.sys.arrivals = []) (hr : s.link.softReset = false) (hk : (s.queue k).pushWaiters = [w])
    (ho : ∀ j, j ≠ k → (s.queue j).pushWaiters = []) (hf : recordWords w.length ≤ (s.queue k).free)
    (hcheck : (committedPast s e).noticeCheck e.queue = committedPast s e)
    (hpop : ((committedPast s e).queue e.queue).popWaiters = []) :
    ((committedPast s e).commitConsequences e.queue).finish =
      ((committedPast s e).setQueue k { (committedPast s e).queue k with pushWaiters := [] }).grantPush k
        w.requester w.tag w.length := by
  have honly := grantsOnly_committedPast s e
  have hpush := committedPast_pushWaiters s e
  have hfits : recordWords w.length ≤ ((committedPast s e).queue k).free := by
    rw [committedPast_free]
    exact hf
  rw [finish_commitConsequences_of_noRequestNext hv (honly.noRequestNext hn) (honly.arrivals.trans ha)
    (by rw [honly.link]; exact hr), hcheck, reexaminePop_of_no_waiter hpop]
  exact arbitrate_grants_one ((hpush k).trans hk) (fun j hj => (hpush j).trans (ho j hj)) hfits
    (committedPast_reservations_length he hl)

/-- Settles O36. -/
theorem headerWriteOkClosesAndCommits : Obligations.HeaderWriteOkClosesAndCommits := by
  refine ⟨?_, ?_, ?_⟩
  · intro s n r q p e ha ho he hseal hs hp hc harr hreset
    have hclose := headerWriteOk_closes ha ho he hseal hs hp hc harr hreset
    refine ⟨fun hk => ?_, fun hk hw => ?_⟩
    · have hnot : e.kind ≠ .data := by rw [hk]; decide
      rw [hclose (fun hd => absurd hd hnot), answeredStored, if_neg hnot]
    · rw [hclose (fun _ => hw), answeredStored, if_pos hk]
  · intro s n r q p e ha ho he hseal hs hp hw hnext harr hreset x freed u fires hvisible
    obtain ⟨hmem, rfl, rfl⟩ := entryAt_spec he
    have hu : committedPast (s.clearOutputs.numberFreed n) e = u := rfl
    have hx : u.queue e.queue = x := committedPast_queue_same _ e
    have hexec : exec (.headerWriteOk n) s = .next (u.commitConsequences e.queue).finish :=
      headerWriteOk_passes_one ha ho he hseal hs hp hw hnext
    have hserved : (∀ k, (s.queue k).pushWaiters = []) →
        exec (.headerWriteOk n) s = .next ((u.noticeCheck e.queue).reexaminePop e.queue) := fun h =>
      hexec.trans (congrArg _ (finish_commit_of_no_push (s := s.clearOutputs.numberFreed n) (e := e)
        (by rw [hu, hx]; exact hvisible) h harr hreset))
    have hcheck : ¬fires → u.noticeCheck e.queue = u := fun h => noticeCheck_of_not_fires (by rw [hx]; exact h)
    have hnone : u.ownsNone e.queue = true ↔ s.onlyEntryAt e.queue e.start :=
      onlyEntryAt_iff_committedPast (s.clearOutputs.numberFreed n) e
    refine ⟨fun hpw hv => ⟨fun hf => ?_, fun hf => ?_⟩, fun w ws hpw hv hf hactive => ⟨fun hws hle hlen => ?_, fun hlt hd => ?_,
      fun hws hlt hd hlast => ?_⟩, fun k w hk hothers hfits hv hf hlen hn => ?_⟩
    · rw [hserved hpw, hcheck hf, reexaminePop_of_no_waiter (by rw [hx]; exact hv)]
    · rw [hserved hpw, noticeCheck_of_fires (by rw [hx]; exact hf), hx]
      exact congrArg _ (reexaminePop_of_no_waiter ((congrArg Queue.popWaiters (setQueue_queue_same _ _ _)).trans hv))
    · rw [hserved hpw, hcheck hf, reexaminePop_grants_one (hx ▸ hv) (hx ▸ hactive) hws (hx ▸ hle) (hx ▸ hlen), hx]
    · rw [hserved hpw, hcheck hf, reexaminePop_leaves (hx ▸ hv) (hx ▸ hactive) (hx ▸ hlt) (by rw [hx, hnone]; exact hd)]
    · refine ⟨_, (hserved hpw).trans (by rw [hcheck hf, reexaminePop_declines_one (hx ▸ hv) (hx ▸ hactive) hws (hx ▸ hlt)
        (hx ▸ hd) (hnone.2 hlast), hx]), ?_, ?_, ?_⟩
      · rw [(answersOnly_declineQueue _ _ _ _ _).queue, setQueue_queue_same]
      · rw [State.declineQueue, State.decline, answer_log]
        exact congrArg (fun l => ExceptionLog.append l _) (committedPast_log (s.clearOutputs.numberFreed n) e)
      · exact answersHeld_of_answeredStored (s := freed) (e := e) hw
          (answersHeld_declineQueue (u.setQueue e.queue { x with popWaiters := [] }) e.queue w .drained)
    · exact hexec.trans (congrArg _ (finish_commit_of_one_push (s := s.clearOutputs.numberFreed n) hmem hlen
        (by rw [hu, hx]; exact hvisible) hn harr hreset hk hothers hfits (hcheck hf) (by rw [hu, hx]; exact hv)))
  · intro s n r q p e ha ho he hseal hs hp hw harr hreset hn closed answered passed x checked hvisible
    have hanswers : AnswersOnly closed answered := answersOnly_answeredStored closed e
    obtain ⟨-, -, hpassed, -⟩ := passClosed_frame q s.reservations.length answered
    have honly : GrantsOnly closed passed := ⟨hpassed.arrivals.trans hanswers.arrivals, hpassed.link.trans hanswers.link,
      hpassed.arbiterDue.trans hanswers.arbiterDue, hpassed.pending.trans hanswers.pending⟩
    have hchecked : passed.noticeCheck q = checked := noticeCheck_eq passed q
    have hexec : exec (.headerWriteOk n) s = .next (passed.commitConsequences q).finish :=
      exec_headerWriteOk_commits ha ho he hseal hs hp hw
    rw [hexec, finish_commitConsequences_of_noRequestNext hvisible (honly.noRequestNext hn) (honly.arrivals.trans harr)
      (by rw [honly.link]; exact hreset), hchecked]

end Sys2Proof.Machine.Laws

namespace Sys2Proof.Machine.Laws

open Sys2Proof Sys2Proof.Machine

/-! ### The log of declined requests (R172, R174) -/

theorem appendAll_append (l : ExceptionLog) (es fs : List LogEntry) :
    l.appendAll (es ++ fs) = (l.appendAll es).appendAll fs := List.foldl_append

theorem decline_log (s : State) (r : Requester) (t : Tag) (e : LogEntry) : (s.decline r t e).log = s.log.append e :=
  answer_log _ _ _ _ _ _

theorem declineWaiters_log (s : State) (q : QueueId) (reason : Reason) (ws : List Waiter) :
    (s.declineWaiters q reason ws).log = s.log.appendAll (ws.map (fun w => queueLogEntry reason w.requester w.tag q)) := by
  induction ws generalizing s with
  | nil => rfl
  | cons w ws ih =>
    have hlog : (s.declineQueue q w.requester w.tag reason).log =
        s.log.append (queueLogEntry reason w.requester w.tag q) := decline_log _ _ _ _
    exact (ih _).trans (by rw [hlog]; rfl)

/-! ### Releases of both waiter lists (R83) -/

/-- Both lists are emptied, and their waiters answered, the pushes first. -/
theorem releaseAll_eq (s : State) (q : QueueId) (reason : Reason) : s.releaseAll q reason =
    (((s.setWaiters q .push []).declineWaiters q reason (s.queue q).pushWaiters).setWaiters q .pop []).declineWaiters q reason
      (s.queue q).popWaiters := by
  rw [State.releaseAll, State.releaseList, releaseList_queue_same]
  rfl

theorem releaseAll_log (s : State) (q : QueueId) (reason : Reason) : (s.releaseAll q reason).log =
    s.log.appendAll (((s.queue q).pushWaiters ++ (s.queue q).popWaiters).map
      (fun w => queueLogEntry reason w.requester w.tag q)) := by
  rw [releaseAll_eq, declineWaiters_log, setWaiters_log, declineWaiters_log, setWaiters_log, List.map_append,
    appendAll_append]

/-- A release empties the two lists, and beside that only answers. -/
theorem answersOnly_releaseAll (s : State) (q : QueueId) (reason : Reason) :
    AnswersOnly (s.setQueue q { s.queue q with pushWaiters := [], popWaiters := [] }) (s.releaseAll q reason) := by
  have hqueues : (s.releaseAll q reason).queues =
      (s.setQueue q { s.queue q with pushWaiters := [], popWaiters := [] }).queues := queues_ext fun k => by
    by_cases hk : k = q
    · rw [hk, releaseAll_queue_same, setQueue_queue_same]
    · rw [releaseAll_queue_other _ _ hk, setQueue_queue_other _ hk]
  rw [releaseAll_eq] at hqueues ⊢
  have hpush := answersOnly_declineWaiters q reason (s.queue q).pushWaiters (s.setWaiters q .push [])
  have hpop := answersOnly_declineWaiters q reason (s.queue q).popWaiters
    (((s.setWaiters q .push []).declineWaiters q reason (s.queue q).pushWaiters).setWaiters q .pop [])
  exact ⟨hpop.arrivals.trans hpush.arrivals, hpop.windows.trans hpush.windows, hpop.classes.trans hpush.classes, hqueues,
    hpop.reservations.trans hpush.reservations, hpop.hold.trans hpush.hold, hpop.mem.trans hpush.mem,
    hpop.link.trans hpush.link, hpop.arbiterDue.trans hpush.arbiterDue, hpop.freeUses.trans hpush.freeUses,
    hpop.pending.trans hpush.pending⟩

/-! ### Requests declined in the course of an event (R83, R134, R138) -/

theorem transaction_setTransaction_other (s : State) {x : Transaction} {r : Requester} {t : Tag}
    (h : ¬(r = x.request.requester ∧ t = x.request.tag)) : (s.setTransaction x).transaction r t = s.transaction r t := by
  have hx : x.named r t = false := by
    rw [← Bool.not_eq_true, named_iff]
    exact fun ⟨hr, ht⟩ => h ⟨hr.symm, ht.symm⟩
  have hother : ∀ y : Transaction, y.named r t = true → y.named x.request.requester x.request.tag = false := by
    intro y hy
    rw [← Bool.not_eq_true, named_iff]
    rintro ⟨hr, ht⟩
    obtain ⟨hr', ht'⟩ := (named_iff y r t).1 hy
    exact h ⟨hr'.symm.trans hr, ht'.symm.trans ht⟩
  simp only [State.transaction, State.setTransaction, withSys_sys]
  induction s.sys.tracker with
  | nil => rfl
  | cons y ys ih =>
    rw [List.map_cons, List.find?_cons, List.find?_cons, ih]
    cases hy : y.named r t with
    | true => rw [if_neg (by rw [hother y hy]; decide), hy]
    | false =>
      have hnot : (if y.named x.request.requester x.request.tag then x else y).named r t = false := by
        split
        · exact hx
        · exact hy
      rw [hnot]

/-- An answer leaves the transactions of other names. -/
theorem transaction_answer_other (s : State) {r r' : Requester} {t t' : Tag} (h : ¬(r' = r ∧ t' = t)) (status : Status)
    (reason : Option Reason) (data : List Word) : (s.answer r t status reason data).transaction r' t' = s.transaction r' t' := by
  unfold State.answer
  split
  · rfl
  next x hx =>
    obtain ⟨hr, ht⟩ := transaction_named hx
    dsimp only
    split
    · rfl
    · split
      · exact transaction_respondedTo_other s (r := x.request.requester) (t := x.request.tag) (by rw [hr, ht]; exact h) status _
      · refine transaction_setTransaction_other s ?_
        exact fun hn => h (by rw [← hr, ← ht]; exact hn)

/-- No answer takes back a response that has been sent. -/
theorem sent_subset_answer (s : State) (r : Requester) (t : Tag) (status : Status) (reason : Option Reason)
    (data : List Word) : s.sys.sent ⊆ (s.answer r t status reason data).sys.sent := by
  unfold State.answer
  split
  · exact List.Subset.refl _
  · dsimp only
    split
    · exact List.Subset.refl _
    · split
      · exact List.subset_append_left _ _
      · exact List.Subset.refl _

/-- In u the transaction x, unanswered before, has been declined: its response is sent, or kept until the beats are in (R138). -/
inductive Declined (x : Transaction) (reason : Reason) (u : State) : Prop
  | sent : x.beatsIn = true →
      (⟨x.request.requester, x.request.tag, .decline, answerData x.request .decline []⟩ : Response) ∈ u.sys.sent →
      Declined x reason u
  | kept : x.beatsIn = false → u.transaction x.request.requester x.request.tag = some { x with
        answer := some ⟨.decline, some reason, answerData x.request .decline []⟩, beatMode := some .dropping } →
      Declined x reason u

/-- A request that has been declined has no other answer (R134). -/
theorem Declined.decline {x : Transaction} {reason : Reason} {u : State} (h : Declined x reason u) (r : Requester) (t : Tag)
    (l : LogEntry) : Declined x reason (u.decline r t l) := by
  obtain ⟨hb, hmem⟩ | ⟨hb, hkept⟩ := h
  · exact .sent hb (sent_subset_answer (u.appendLog l) r t .decline (some l.reason) [] hmem)
  · refine .kept hb ?_
    by_cases hn : x.request.requester = r ∧ x.request.tag = t
    · obtain ⟨rfl, rfl⟩ := hn
      rw [State.decline, answer_twice (s := u.appendLog l) hkept rfl]
      exact hkept
    · exact (transaction_answer_other (u.appendLog l) hn _ _ _).trans hkept

/-- In u the transaction x, unanswered before, stands as it was or has been declined. -/
def StandsOrDeclined (x : Transaction) (reason : Reason) (u : State) : Prop :=
  u.transaction x.request.requester x.request.tag = some x ∨ Declined x reason u

theorem transaction_of_sys {u v : State} (h : v.sys = u.sys) (r : Requester) (t : Tag) :
    v.transaction r t = u.transaction r t := by rw [State.transaction, State.transaction, h]

theorem Declined.of_sys {x : Transaction} {reason : Reason} {u v : State} (h : Declined x reason u) (hs : v.sys = u.sys) :
    Declined x reason v := by
  obtain ⟨hb, hmem⟩ | ⟨hb, hkept⟩ := h
  · exact .sent hb (hs ▸ hmem)
  · exact .kept hb ((transaction_of_sys hs _ _).trans hkept)

theorem Declined.setWaiters {x : Transaction} {reason : Reason} {u : State} (h : Declined x reason u) (q : QueueId) (side : Side)
    (ws : List Waiter) : Declined x reason (u.setWaiters q side ws) := h.of_sys rfl

theorem StandsOrDeclined.of_sys {x : Transaction} {reason : Reason} {u v : State} (h : StandsOrDeclined x reason u)
    (hs : v.sys = u.sys) : StandsOrDeclined x reason v :=
  h.imp (fun hx => (transaction_of_sys hs _ _).trans hx) (fun hd => hd.of_sys hs)

theorem StandsOrDeclined.setWaiters {x : Transaction} {reason : Reason} {u : State} (h : StandsOrDeclined x reason u)
    (q : QueueId) (side : Side) (ws : List Waiter) : StandsOrDeclined x reason (u.setWaiters q side ws) := h.of_sys rfl

section StandsOrDeclined

variable {x : Transaction} {reason : Reason} {u : State} (hnone : x.answer = none) (h : StandsOrDeclined x reason u)

include hnone h

/-- A request is declined with its own name; the reason of a response that is sent at once is in the log alone. -/
theorem StandsOrDeclined.declined {l : LogEntry} (hl : l.reason = reason ∨ x.beatsIn = true) :
    Declined x reason (u.decline x.request.requester x.request.tag l) := by
  obtain hx | hd := h
  · cases hb : x.beatsIn with
    | true =>
      refine .sent hb ?_
      rw [State.decline, answer_sent (s := u.appendLog l) hx hnone hb]
      exact List.mem_append_right _ (List.mem_singleton.2 rfl)
    | false =>
      obtain rfl : l.reason = reason := hl.resolve_right (by rw [hb]; decide)
      refine .kept hb ?_
      rw [State.decline, answer_kept (s := u.appendLog l) hx hnone hb]
      exact transaction_setTransaction_same (s := u.appendLog l) hx rfl rfl
  · exact hd.decline _ _ _

theorem StandsOrDeclined.decline (r : Requester) (t : Tag) {l : LogEntry} (hl : l.reason = reason ∨ x.beatsIn = true) :
    StandsOrDeclined x reason (u.decline r t l) := by
  by_cases hn : x.request.requester = r ∧ x.request.tag = t
  · obtain ⟨rfl, rfl⟩ := hn
    exact .inr (h.declined hnone hl)
  · exact h.imp (fun hx => (transaction_answer_other (u.appendLog l) hn _ _ _).trans hx) (fun hd => hd.decline r t l)

end StandsOrDeclined

/-- Along a fold: P holds throughout, and A from the first a of interest on. -/
theorem foldl_reaches {α : Type} {f : State → α → State} {P A : State → Prop} {l : List α}
    (hP : ∀ u, ∀ a ∈ l, P u → P (f u a)) (hA : ∀ u a, A u → A (f u a)) {a : α} (hreach : ∀ u, P u → A (f u a))
    {s : State} (hs : P s) (ha : a ∈ l) : A (l.foldl f s) := by
  induction l generalizing s with
  | nil => exact absurd ha List.not_mem_nil
  | cons b l ih =>
    obtain rfl | ha := List.mem_cons.1 ha
    · exact List.foldlRecOn l f (hreach s hs) (fun u hu b _ => hA u b hu)
    · exact ih (fun u c hc => hP u c (List.mem_cons_of_mem _ hc)) (hP s b List.mem_cons_self hs) ha

theorem Declined.declineWaiters {x : Transaction} {reason : Reason} {u : State} (h : Declined x reason u) (q : QueueId)
    (reason' : Reason) (ws : List Waiter) : Declined x reason (u.declineWaiters q reason' ws) :=
  List.foldlRecOn ws _ h (fun _ hv _ _ => hv.decline _ _ _)

theorem Declined.releaseAll {x : Transaction} {reason : Reason} {u : State} (h : Declined x reason u) (q : QueueId)
    (reason' : Reason) : Declined x reason (u.releaseAll q reason') := by
  rw [releaseAll_eq]
  exact (((h.setWaiters q .push []).declineWaiters q reason' _).setWaiters q .pop []).declineWaiters q reason' _

section Release

variable {x : Transaction} {reason : Reason} {u : State} (hnone : x.answer = none) (h : StandsOrDeclined x reason u)

include hnone h

theorem StandsOrDeclined.declineWaiters (q : QueueId) (ws : List Waiter) :
    StandsOrDeclined x reason (u.declineWaiters q reason ws) :=
  List.foldlRecOn ws _ h (fun _ hv _ _ => hv.decline hnone _ _ (.inl rfl))

theorem StandsOrDeclined.releaseAll (q : QueueId) : StandsOrDeclined x reason (u.releaseAll q reason) := by
  rw [releaseAll_eq]
  exact (((h.setWaiters q .push []).declineWaiters hnone q _).setWaiters q .pop []).declineWaiters hnone q _

variable {w : Waiter} (hr : x.request.requester = w.requester) (ht : x.request.tag = w.tag)

include hr ht

theorem StandsOrDeclined.declineWaiters_declined (q : QueueId) {ws : List Waiter} (hw : w ∈ ws) :
    Declined x reason (u.declineWaiters q reason ws) :=
  foldl_reaches (fun _ _ _ hv => hv.decline hnone _ _ (.inl rfl)) (fun _ _ hv => hv.decline _ _ _)
    (fun _ hv => hr ▸ ht ▸ hv.declined hnone (.inl rfl)) h hw

/-- A release declines every waiter of the queue (R83). -/
theorem StandsOrDeclined.releaseAll_declined {q : QueueId} (hw : w ∈ (u.queue q).pushWaiters ∨ w ∈ (u.queue q).popWaiters) :
    Declined x reason (u.releaseAll q reason) := by
  rw [releaseAll_eq]
  obtain hpush | hpop := hw
  · exact (((h.setWaiters q .push []).declineWaiters_declined hnone hr ht q hpush).setWaiters q .pop []).declineWaiters q
      reason _
  · exact (((h.setWaiters q .push []).declineWaiters hnone q _).setWaiters q .pop []).declineWaiters_declined hnone hr ht q hpop

end Release

/-- What the statements call the answer of a held request. -/
theorem answersHeld_of_declined {s t : State} {w : Waiter} {reason : Reason}
    (h : ∀ x, s.transaction w.requester w.tag = some x → x.answer = none → Declined x reason t) :
    s.answersHeld t w .decline reason := by
  intro x hx hnone
  obtain ⟨hb, hmem⟩ | ⟨hb, hkept⟩ := h x hx hnone
  · refine ⟨fun hread => ?_, fun hwrite hmore => ?_⟩
    · have hdata : answerData x.request .decline [] = List.replicate x.request.beats.val (BitVec.allOnes 64) := by
        simp only [answerData, hread]
        rfl
      exact hdata ▸ hmem
    · rw [beatsIn_iff, hwrite] at hb
      exact absurd (hb.resolve_left (by decide)) (Nat.ne_of_lt hmore)
  · refine ⟨fun hread => ?_, fun hwrite _ => ⟨_, transaction_mem hkept, rfl, rfl, ?_⟩⟩
    · rw [(beatsIn_iff x).2 (.inl hread)] at hb
      cases hb
    · simp only [answerData, hwrite]

/-- A write whose beats are in has its response sent as it is declined. -/
theorem mem_sent_of_writeReady {s u : State} {r : Requester} {t : Tag} {reason : Reason} (hw : s.writeReady r t)
    (h : ∀ x, s.transaction r t = some x → x.answer = none → Declined x reason u) :
    (⟨r, t, .decline, []⟩ : Response) ∈ u.sys.sent := by
  obtain ⟨x, hx, hdir, hrec, hnone⟩ := hw
  obtain ⟨rfl, rfl⟩ := transaction_named hx
  have hdata : answerData x.request .decline [] = [] := by simp only [answerData, hdir]
  obtain ⟨-, hmem⟩ | ⟨hb, -⟩ := h x hx hnone
  · exact hdata ▸ hmem
  · rw [(beatsIn_iff x).2 (.inr hrec)] at hb
    cases hb

end Sys2Proof.Machine.Laws

namespace Sys2Proof.Machine.Laws

open Sys2Proof Sys2Proof.Machine

/-! ### The entry into FAULTED (R98, R177) -/

theorem toResume_eq {st : QueueState} (h : st = .running ∨ st = .draining) :
    st.toResume = if st = .draining then .draining else .running := by
  obtain rfl | rfl := h <;> rfl

/-- The entry into FAULTED changes one queue, and beside that only answers and logs. -/
theorem answersOnly_enterFaulted (s : State) (q : QueueId) (reason : FaultReason) :
    AnswersOnly (s.setQueue q ((s.enterFaulted q reason).queue q)) (s.enterFaulted q reason) := by
  have h := answersOnly_releaseAll ((s.modifyQueue q (fun x =>
      { x with state := .faulted, faultReason := some reason, resume := x.state.toResume })).appendLog
    { reason := .queueFaulted, queue := some q, words := some (.fault reason) }) q .faulted
  refine ⟨h.arrivals, h.windows, h.classes, queues_ext fun k => ?_, h.reservations, h.hold, h.mem, h.link, h.arbiterDue,
    h.freeUses, h.pending⟩
  by_cases hk : k = q
  · rw [hk, setQueue_queue_same]
  · rw [enterFaulted_queue_other _ _ hk, setQueue_queue_other _ hk]

theorem enterFaulted_log (s : State) (q : QueueId) (reason : FaultReason) : (s.enterFaulted q reason).log =
    s.log.appendAll ({ reason := .queueFaulted, queue := some q, words := some (.fault reason) } ::
      ((s.queue q).pushWaiters ++ (s.queue q).popWaiters).map (fun w => queueLogEntry .faulted w.requester w.tag q)) := by
  rw [State.enterFaulted, releaseAll_log, appendLog_queue, modifyQueue_queue_same]
  rfl

theorem attentionLine_of_faulted {s : State} {q : QueueId} (h : (s.queue q).state = .faulted) : s.attentionLine = true := by
  have hsome : s.someFaulted = true :=
    List.any_eq_true.2 ⟨s.queue q, Vector.mem_toList_iff.2 (Vector.getElem_mem q.isLt), decide_eq_true h⟩
  rw [State.attentionLine, hsome, Bool.or_true]

theorem faultTrigger_of_active {s : State} {q : QueueId} (h : (s.queue q).state = .running ∨ (s.queue q).state = .draining)
    (reason : FaultReason) : s.faultTrigger q reason = s.enterFaulted q reason := by
  unfold State.faultTrigger
  obtain h | h := h <;> rw [h]

theorem faultTrigger_of_faulted {s : State} {q : QueueId} (h : (s.queue q).state = .faulted) (reason : FaultReason) :
    s.faultTrigger q reason = s := by
  unfold State.faultTrigger
  rw [h]

theorem Declined.enterFaulted {x : Transaction} {reason : Reason} {u : State} (h : Declined x reason u) (q : QueueId)
    (fault : FaultReason) : Declined x reason (u.enterFaulted q fault) := by
  rw [State.enterFaulted]
  refine Declined.releaseAll ?_ q .faulted
  exact h.of_sys rfl

/-- The entry into FAULTED declines every waiter of the queue (R83, R98). -/
theorem StandsOrDeclined.enterFaulted_declined {x : Transaction} {u : State} (hnone : x.answer = none)
    (h : StandsOrDeclined x .faulted u) {q : QueueId} {w : Waiter} (hr : x.request.requester = w.requester)
    (ht : x.request.tag = w.tag) (hw : w ∈ (u.queue q).pushWaiters ∨ w ∈ (u.queue q).popWaiters) (fault : FaultReason) :
    Declined x .faulted (u.enterFaulted q fault) := by
  rw [State.enterFaulted]
  refine StandsOrDeclined.releaseAll_declined hnone ?_ hr ht ?_
  · exact h.of_sys rfl
  · rw [appendLog_queue, modifyQueue_queue_same]
    exact hw

/-! ### A header write that completes ERROR outside STOPPING (R48) -/

theorem declineHeader_of_data (s : State) {e : Entry} (hk : e.kind = .data) :
    s.declineHeader e = s.decline e.requester e.tag (headerWriteLogEntry e) := by
  rw [State.declineHeader, hk]
  rfl

theorem declineHeader_log (s : State) (e : Entry) : (s.declineHeader e).log = s.log.append (headerWriteLogEntry e) := by
  cases hk : e.kind with
  | data => rw [declineHeader_of_data s hk, decline_log]
  | filler => rw [declineHeader_filler s hk]; rfl

theorem declineHeader_transaction_other (s : State) (e : Entry) {r : Requester} {t : Tag}
    (h : ¬(r = e.requester ∧ t = e.tag)) : (s.declineHeader e).transaction r t = s.transaction r t := by
  cases hk : e.kind with
  | data =>
    rw [declineHeader_of_data s hk]
    exact transaction_answer_other (s.appendLog (headerWriteLogEntry e)) h _ _ _
  | filler => rw [declineHeader_filler s hk]; rfl

/-- The producer of a DATA record is declined (R48). -/
theorem declineHeader_declined {s : State} {e : Entry} {x : Transaction} (hk : e.kind = .data)
    (hx : s.transaction e.requester e.tag = some x) (hnone : x.answer = none) :
    Declined x .headerWrite (s.declineHeader e) := by
  obtain ⟨hr, ht⟩ := transaction_named hx
  rw [declineHeader_of_data s hk]
  rw [← hr, ← ht] at hx ⊢
  exact StandsOrDeclined.declined hnone (.inl hx) (.inl rfl)

theorem setEntry_reservations_eq (s : State) (x : Entry) : (s.setEntry x).reservations =
    s.reservations.map (fun y => if y.queue = x.queue ∧ y.start = x.start then x else y) := by
  simp only [setEntry_reservations, same_eq, decide_eq_true_eq]

/-- The bridge when the entry e is FAILED and its producer, if it has one, is answered (R48). -/
def headerFailed (s : State) (e : Entry) : State := (s.setEntry { e with state := .failed }).declineHeader e

theorem exec_headerWriteError {s : State} {n : Nat} {r : MemRequest} {q : QueueId} {p : Position} {e : Entry}
    (ha : s.awaits n r) (ho : r.owner = .header q p) (he : s.entryAt q p = some e) (hseal : e.state = .sealing)
    (hs : (s.queue q).state ≠ .stopping) : exec (.headerWriteError n) s =
      .next ((headerFailed (s.clearOutputs.numberFreed n) e).faultTrigger q .headerWrite).finish := by
  obtain ⟨-, rfl, rfl⟩ := entryAt_spec he
  have hnot : ((s.clearOutputs.numberFreed n).queue e.queue).state ≠ .stopping := hs
  refine congrArg _ ((complete_header ha ho he .error).trans ?_)
  simp only [State.headerCompletes, hseal, State.headerError, hnot, if_false]
  rfl

/-- What a header write failure has done before the fault is triggered (R48, R49). -/
structure HeaderFailed (s : State) (e : Entry) (u : State) : Prop where
  frame    : AnswersOnly (s.setEntry { e with state := .failed }) u
  log      : u.log = s.log.append (headerWriteLogEntry e)
  others   : ∀ r t, ¬(r = e.requester ∧ t = e.tag) → u.transaction r t = s.transaction r t
  producer : e.kind = .data → ∀ x, s.transaction e.requester e.tag = some x → x.answer = none → Declined x .headerWrite u

theorem headerFailed_spec (s : State) (e : Entry) : HeaderFailed s e (headerFailed s e) :=
  ⟨answersOnly_declineHeader (s.setEntry { e with state := .failed }) e,
    declineHeader_log (s.setEntry { e with state := .failed }) e,
    fun _ _ h => declineHeader_transaction_other (s.setEntry { e with state := .failed }) e h,
    fun hk _ hx hnone => declineHeader_declined (s := s.setEntry { e with state := .failed }) hk hx hnone⟩

/-- Settles O38. -/
theorem headerWriteErrorFaultsTheQueue : Obligations.HeaderWriteErrorFaultsTheQueue := by
  intro s n r q p e ha ho he hseal harr hreset
  have hexec := exec_headerWriteError ha ho he hseal
  obtain ⟨-, rfl, rfl⟩ := entryAt_spec he
  obtain ⟨hframe, hlog, hothers, hproducer⟩ := headerFailed_spec (s.clearOutputs.numberFreed n) e
  generalize headerFailed (s.clearOutputs.numberFreed n) e = u at hexec hframe hlog hothers hproducer
  have hreservations : u.reservations = s.reservations.map (fun y =>
      if y.queue = e.queue ∧ y.start = e.start then { e with state := .failed } else y) :=
    hframe.reservations.trans (setEntry_reservations_eq _ _)
  have hwaiting : u.mem.waiting = s.mem.waiting := by rw [hframe.mem]; rfl
  have hpassed : u.mem.passed = (s.numberFreed n).mem.passed := by rw [hframe.mem]; rfl
  have hqueue : ∀ k, u.queue k = s.queue k := hframe.queue
  have harrivals : u.sys.arrivals = [] := hframe.arrivals.trans harr
  have hclear : u.link.softReset = false := by rw [hframe.link]; exact hreset
  refine ⟨fun hactive => ?_, fun hfaulted => ?_⟩
  · have hnot : (s.queue e.queue).state ≠ .stopping := fun h => by simp [h] at hactive
    have hfault := answersOnly_enterFaulted u e.queue .headerWrite
    have hsame := enterFaulted_queue_same u e.queue .headerWrite
    rw [hqueue, toResume_eq hactive] at hsame
    refine ⟨u.enterFaulted e.queue .headerWrite, ?_, hfault.reservations.trans hreservations, hsame, fun k hk => ?_,
      by rw [hfault.mem]; exact hwaiting, by rw [hfault.mem]; exact hpassed,
      attentionLine_of_faulted (q := e.queue) (by rw [hsame]), ?_, fun hk hw => ?_, fun w hw hne => ?_⟩
    · rw [hexec hnot, faultTrigger_of_active (by rw [hqueue]; exact hactive),
        finish_of_no_arrival _ (hfault.arrivals.trans harrivals) (by rw [hfault.link]; exact hclear)]
    · rw [enterFaulted_queue_other _ _ hk, hqueue]
    · rw [enterFaulted_log, hqueue, hlog]
      rfl
    · exact mem_sent_of_writeReady hw (fun x hx hnone => (hproducer hk x hx hnone).enterFaulted _ _)
    · refine answersHeld_of_declined (fun x hx hnone => ?_)
      obtain ⟨hr, ht⟩ := transaction_named hx
      have hstands : StandsOrDeclined x .faulted u := .inl (by rw [hr, ht, hothers _ _ hne]; exact hx)
      exact hstands.enterFaulted_declined hnone hr ht (by rw [hqueue]; exact hw) _
  · have hnot : (s.queue e.queue).state ≠ .stopping := by rw [hfaulted]; decide
    refine ⟨u, ?_, hreservations, hframe.queues, hwaiting, hpassed, hlog,
      fun hk hw => mem_sent_of_writeReady hw (hproducer hk)⟩
    rw [hexec hnot, faultTrigger_of_faulted (by rw [hqueue, hfaulted]), finish_of_no_arrival _ harrivals hclear]

end Sys2Proof.Machine.Laws

namespace Sys2Proof.Machine.Laws

open Sys2Proof Sys2Proof.Machine

/-! ### Entries re-issued as FILLERs (R51) -/

theorem same_iff (x y : Entry) : x.same y = true ↔ x.queue = y.queue ∧ x.start = y.start := decide_eq_true_iff

/-- The entry y once each of the entries es has become a FILLER. -/
def afterFillers (es : List Entry) (y : Entry) : Entry :=
  match es.find? (fun e => e.same y) with
  | none => y
  | some e => e.asFiller

theorem afterFillers_of_none {es : List Entry} {y : Entry} (h : ∀ e ∈ es, e.same y = false) : afterFillers es y = y := by
  rw [afterFillers, List.find?_eq_none.2 (fun e he => by rw [h e he]; decide)]

theorem afterFillers_cons (e : Entry) (es : List Entry) (y : Entry) :
    afterFillers (e :: es) y = if e.same y then e.asFiller else afterFillers es y := by
  rw [afterFillers, List.find?_cons]
  cases e.same y <;> rfl

theorem issueFiller_eq (s : State) (e : Entry) :
    s.issueFiller e = (s.setEntry e.asFiller).presenting [fillerWrite (s.queue e.queue).config e] := rfl

/-- Entries of different names are re-issued one after the other. -/
theorem foldl_issueFiller (es : List Entry) {s : State} (hd : es.Pairwise (fun a b => b.same a = false)) :
    es.foldl State.issueFiller s = (s.withReservations (s.reservations.map (afterFillers es))).presenting
      (es.map (fun e => fillerWrite (s.queue e.queue).config e)) := by
  induction es generalizing s with
  | nil =>
    have hid : s.reservations.map (afterFillers []) = s.reservations := List.map_id _
    rw [hid, List.map_nil, State.presenting, List.append_nil]
    rfl
  | cons e es ih =>
    obtain ⟨hhead, htail⟩ := List.pairwise_cons.1 hd
    have hstep : afterFillers es ∘ (fun y => if e.asFiller.same y then e.asFiller else y) = afterFillers (e :: es) := by
      funext y
      rw [afterFillers_cons, Function.comp_apply]
      cases hy : e.same y with
      | true => exact (congrArg _ (if_pos hy)).trans (afterFillers_of_none hhead)
      | false => exact congrArg _ (if_neg (by rw [show e.asFiller.same y = false from hy]; decide))
    rw [List.foldl_cons, ih htail, issueFiller_eq, ← hstep, ← List.map_map, List.map_cons]
    simp only [State.presenting, State.withReservations, State.withMem, State.setEntry, List.append_assoc]
    rfl

/-! ### CLEAR-FAULT (R101) -/

/-- Entries of one queue with different start positions are told apart by them. -/
theorem entriesOf_start_inj {s : State} {q : QueueId} (hd : ((s.entriesOf q).map (fun e => e.start)).Nodup) {a b : Entry}
    (ha : a ∈ s.entriesOf q) (hb : b ∈ s.entriesOf q) (h : a.start = b.start) : a = b :=
  List.inj_on_of_nodup_map hd ha hb h

theorem mem_entriesOf {s : State} {q : QueueId} {e : Entry} : e ∈ s.entriesOf q ↔ e ∈ s.reservations ∧ e.queue = q := by
  rw [State.entriesOf, List.mem_filter, decide_eq_true_eq]

/-- An entry as CLEAR-FAULT of queue q leaves it (R51). -/
def afterClearFault (q : QueueId) (e : Entry) : Entry := if e.queue = q ∧ e.state = .failed then e.asFiller else e

/-- The FAILED entries of a queue become FILLERs, and no other entry changes. -/
theorem afterFillers_failed {s : State} {q : QueueId} (hd : ((s.entriesOf q).map (fun e => e.start)).Nodup) {y : Entry}
    (hy : y ∈ s.reservations) :
    afterFillers ((s.entriesOf q).filter (fun e => decide (e.state = .failed))) y = afterClearFault q y := by
  unfold afterFillers afterClearFault
  split
  next hnone =>
    rw [if_neg]
    rintro ⟨hq, hs⟩
    have hmem : y ∈ (s.entriesOf q).filter (fun e => decide (e.state = .failed)) :=
      List.mem_filter.2 ⟨mem_entriesOf.2 ⟨hy, hq⟩, decide_eq_true hs⟩
    exact List.find?_eq_none.1 hnone y hmem ((same_iff y y).2 ⟨rfl, rfl⟩)
  next e he =>
    obtain ⟨hmem, hs⟩ := List.mem_filter.1 (List.mem_of_find?_eq_some he)
    obtain ⟨hq, hp⟩ := (same_iff e y).1 (List.find?_some (p := fun e => Entry.same e y) he)
    obtain rfl : e = y := entriesOf_start_inj hd hmem (mem_entriesOf.2 ⟨hy, hq ▸ entriesOf_queue hmem⟩) hp
    rw [if_pos ⟨entriesOf_queue hmem, of_decide_eq_true hs⟩]

theorem reissueFailed_eq {s : State} {q : QueueId} (hd : ((s.entriesOf q).map (fun e => e.start)).Nodup) :
    s.reissueFailed q = (s.withReservations (s.reservations.map (afterClearFault q))).presenting
      (((s.entriesOf q).filter (fun e => decide (e.state = .failed))).map (fillerWrite (s.queue q).config)) := by
  have hnames : ((s.entriesOf q).filter (fun e => decide (e.state = .failed))).Pairwise (fun a b => b.same a = false) := by
    refine ((List.pairwise_map.1 hd).filter _).imp (fun {a b} hne => ?_)
    rw [← Bool.not_eq_true, same_iff]
    exact fun h => hne h.2.symm
  have hwrites : ((s.entriesOf q).filter (fun e => decide (e.state = .failed))).map
      (fun e => fillerWrite (s.queue e.queue).config e) =
        ((s.entriesOf q).filter (fun e => decide (e.state = .failed))).map (fillerWrite (s.queue q).config) :=
    List.map_congr_left (fun e he => by rw [entriesOf_queue (List.mem_of_mem_filter he)])
  rw [State.reissueFailed, foldl_issueFiller _ hnames, hwrites, List.map_congr_left (fun y hy => afterFillers_failed hd hy)]

/-- The bridge when the fault of queue q is cleared and its FAILED entries are re-issued (R51, R101). -/
def faultCleared (s : State) (q : QueueId) : State :=
  ((s.setQueue q (s.queue q).cleared).withReservations (s.reservations.map (afterClearFault q))).presenting
    (((s.entriesOf q).filter (fun e => decide (e.state = .failed))).map (fillerWrite (s.queue q).config))

theorem faultCleared_queue_same (s : State) (q : QueueId) : (faultCleared s q).queue q = (s.queue q).cleared :=
  setQueue_queue_same s q _

/-- No entry of a cleared queue stands CLOSED at the commit position, where none did before. -/
theorem faultCleared_no_closed {s : State} {q : QueueId}
    (hc : ∀ e ∈ s.entriesOf q, e.start = (s.queue q).commit → e.state ≠ .closed) :
    ∀ k ∈ (faultCleared s q).entriesOf q, k.start = ((faultCleared s q).queue q).commit → k.state ≠ .closed := by
  intro k hk hstart
  rw [faultCleared_queue_same] at hstart
  obtain ⟨hmem, hq⟩ := mem_entriesOf.1 hk
  obtain ⟨e, he, rfl⟩ := List.mem_map.1 (show k ∈ s.reservations.map (afterClearFault q) from hmem)
  unfold afterClearFault at hstart hq ⊢
  split at hstart
  next hf =>
    rw [if_pos hf]
    exact fun h => by cases h
  next hf =>
    rw [if_neg hf] at hq ⊢
    exact hc e (mem_entriesOf.2 ⟨he, hq⟩) hstart

theorem ownsNone_faultCleared (s : State) (q : QueueId) :
    (faultCleared s q).ownsNone q = true ↔ s.entriesOf q = [] := by
  have hqueue : ∀ e, (afterClearFault q e).queue = e.queue := fun e => by
    unfold afterClearFault
    split <;> rfl
  have hentries : (faultCleared s q).entriesOf q = (s.entriesOf q).map (afterClearFault q) := by
    refine (List.filter_map ..).trans (congrArg _ (List.filter_congr (fun e _ => ?_)))
    rw [Function.comp_apply, hqueue]
  rw [ownsNone_iff, hentries, List.map_eq_nil_iff]

/-- With no CLOSED entry at the commit position, the notice check and the drain test are all that follows (R101). -/
theorem clearFaultQueue_eq {s : State} {q : QueueId} (hd : ((s.entriesOf q).map (fun e => e.start)).Nodup)
    (hc : ∀ e ∈ s.entriesOf q, e.start = (s.queue q).commit → e.state ≠ .closed) :
    s.clearFaultQueue q = ((faultCleared s q).noticeCheck q).testDrain q := by
  have hreissued : (s.modifyQueue q Queue.cleared).reissueFailed q = faultCleared s q := by
    refine (reissueFailed_eq (s := s.modifyQueue q Queue.cleared) hd).trans ?_
    rw [modifyQueue_queue_same]
    rfl
  rw [State.clearFaultQueue, hreissued, commitAttempt_of_no_closed (faultCleared_no_closed hc)]

theorem testDrain_of_not {s : State} {q : QueueId} (h : ¬((s.queue q).state = .draining ∧ s.ownsNone q = true ∧
    (s.queue q).popEntries = [] ∧ (s.queue q).visible = 0)) : s.testDrain q = s := by
  rw [State.testDrain, if_neg (fun hd => h ((drainComplete_iff s q).1 hd))]

theorem testDrain_of_complete {s : State} {q : QueueId} (h : (s.queue q).state = .draining ∧ s.ownsNone q = true ∧
    (s.queue q).popEntries = [] ∧ (s.queue q).visible = 0) : s.testDrain q = s.setQueue q (s.queue q).arrived := by
  rw [State.testDrain, if_pos ((drainComplete_iff s q).2 h), State.modifyQueue]

theorem actClearFault_of_faulted {s : State} {q : QueueId} (h : (s.queue q).state = .faulted) :
    s.act q .clearFault = ⟨s.clearFaultQueue q, .done, []⟩ := by
  rw [State.act, State.actClearFault, h]

theorem actClearFault_of_not_faulted {s : State} {q : QueueId} (h : (s.queue q).state ≠ .faulted) :
    s.act q .clearFault = ⟨s, .refusedState, []⟩ := by
  rw [State.act, State.actClearFault]
  split
  next hf => exact absurd hf h
  next => rfl

theorem cleared_draining_iff (x : Queue) : x.cleared.state = .draining ↔ x.resume = .draining := by
  unfold Queue.cleared ResumeState.toState
  cases x.resume <;> simp

/-- Settles O19. -/
theorem clearFaultReissuesFailedEntries : Obligations.ClearFaultReissuesFailedEntries := by
  intro s q superseded ho
  have hexec := exec_action ho
  refine ⟨fun hs => ?_, fun hs hd hc => ?_⟩
  · rw [actClearFault_of_not_faulted (s := s.clearOutputs) hs] at hexec
    exact hexec.trans (congrArg _ (finish_executed _ _ _ rfl ho.2))
  · intro x reissued fires drained
    rw [actClearFault_of_faulted (s := s.clearOutputs) hs, clearFaultQueue_eq (s := s.clearOutputs) hd hc] at hexec
    have hcleared : faultCleared s.clearOutputs q = reissued := rfl
    have hx : reissued.queue q = x := faultCleared_queue_same s.clearOutputs q
    have hends : x.state = .draining ∧ reissued.ownsNone q = true ∧ x.popEntries = [] ∧ x.visible = 0 ↔ drained := by
      rw [← hcleared, ownsNone_faultCleared s.clearOutputs q]
      exact and_congr_left' (cleared_draining_iff (s.queue q))
    rw [hcleared] at hexec
    refine ⟨fun hf hn => ?_, fun hf => ?_, fun hn hp hv => ?_⟩
    · rw [noticeCheck_of_not_fires (by rw [hx]; exact hf), testDrain_of_not (by rw [hx, hends]; exact hn)] at hexec
      exact hexec.trans (congrArg _ (finish_executed _ _ _ rfl ho.2))
    · have hmany : ¬(((reissued.noticeCheck q).queue q).visible = 0) := by
        rw [noticeCheck_visible, hx]
        obtain ⟨-, hthreshold, hle, -⟩ := hf
        omega
      rw [testDrain_of_not (fun ⟨_, _, _, hvisible⟩ => hmany hvisible), noticeCheck_of_fires (by rw [hx]; exact hf), hx] at hexec
      exact hexec.trans (congrArg _ (finish_executed _ _ _ rfl ho.2))
    · have hnot : ¬fires := by
        rintro ⟨-, hthreshold, hle, -⟩
        obtain ⟨-, -, -, hvisible⟩ := hn
        omega
      rw [noticeCheck_of_not_fires (by rw [hx]; exact hnot), testDrain_of_complete (by rw [hx, hends]; exact hn), hx,
        arrived_eq_atStopped hp hv] at hexec
      exact hexec.trans (congrArg _ (finish_executed _ _ _ rfl ho.2))

end Sys2Proof.Machine.Laws

namespace Sys2Proof.Machine.Laws

open Sys2Proof Sys2Proof.Machine

/-! ### What the freeing of an entry leaves (R36, R37) -/

theorem grantHead_log (s : State) (q : QueueId) (w : Waiter) : (s.grantHead q w).log = s.log := by
  rw [State.grantHead, State.grantPush, State.setBeatMode]
  split <;> rfl

theorem grantHead_sent (s : State) (q : QueueId) (w : Waiter) : (s.grantHead q w).sys.sent = s.sys.sent := by
  rw [State.grantHead, State.grantPush, State.setBeatMode]
  split <;> rfl

/-- What the freeing of an entry starts in s, t being its outcome: entries for queues at which pushes wait, and no answer. -/
structure StartsGrants (s t : State) : Prop where
  arrivals : t.sys.arrivals = s.sys.arrivals
  sent     : t.sys.sent = s.sys.sent
  link     : t.link = s.link
  log      : t.log = s.log
  entries  : ∃ new, t.reservations = s.reservations ++ new ∧ ∀ e ∈ new, (s.queue e.queue).pushWaiters ≠ []

theorem StartsGrants.none {s t : State} (hs : t.sys = s.sys) (hl : t.link = s.link) (hg : t.log = s.log)
    (hr : t.reservations = s.reservations) : StartsGrants s t :=
  ⟨by rw [hs], by rw [hs], hl, hg, [], by rw [hr, List.append_nil], fun _ h => absurd h List.not_mem_nil⟩

theorem startsGrants_arbitrate (s : State) : StartsGrants s s.arbitrate := by
  obtain ⟨honly, ⟨new, hnew, hwait⟩, -⟩ := granted_arbitrate s
  exact ⟨honly.arrivals,
    arbitrate_keeps (P := fun u => u.sys.sent = s.sys.sent) (fun u q w hu _ _ => (grantHead_sent u q w).trans hu) rfl,
    honly.link,
    arbitrate_keeps (P := fun u => u.log = s.log) (fun u q w hu _ _ => (grantHead_log u q w).trans hu) rfl,
    new, hnew, fun e he => (hwait e he).2⟩

/-- With nothing stalled at the port, an event that has freed entries answers nobody more (R36, R37). -/
theorem startsGrants_arbitrateIfFreed (s : State) {u : State} (ha : u.sys.arrivals = []) :
    StartsGrants u (s.arbitrateIfFreed u) := by
  obtain ⟨-, he⟩ | ⟨-, he⟩ := arbitrateIfFreed_cases s u
  · rw [he]
    obtain he | he | he | he := entryFreed_outcomes (s := u) (.inr ha)
    · rw [he]
      exact .none rfl rfl rfl rfl
    · rw [he]
      exact startsGrants_arbitrate u
    · obtain ⟨harr, hsent, hlink, hlog, hentries⟩ := startsGrants_arbitrate u.useFree
      rw [he]
      exact ⟨harr, hsent, hlink, hlog, hentries⟩
    · rw [he]
      exact .none rfl rfl rfl rfl
  · rw [he]
    exact .none rfl rfl rfl rfl

/-! ### What STOP makes of an entry (R42) -/

theorem stopped_of_filling {e : Entry} (h : e.state = .filling) (n : Nat) :
    e.stopped n = { e with state := .discarding, cause := some (e.cause.getD .stop) } := by
  simp only [Entry.stopped, h, recordCause_eq]

theorem stopped_of_writing {e : Entry} (h : e.state = .writing) (n : Nat) : e.stopped n = { e with
    state := .discarding, cause := some (e.cause.getD .stop), writesOutstanding := e.writesOutstanding - n } := by
  simp only [Entry.stopped, h, recordCause_eq]

theorem stopped_of_other {e : Entry} (hf : e.state ≠ .filling) (hw : e.state ≠ .writing) (n : Nat) : e.stopped n = e := by
  unfold Entry.stopped
  split
  next h => exact absurd h hf
  next h => exact absurd h hw
  next => rfl

/-- STOP changes the state, the cause and the count of an entry. -/
theorem stopped_eq (e : Entry) (n : Nat) :
    ∃ st c w, e.stopped n = { e with state := st, cause := c, writesOutstanding := w } := by
  unfold Entry.stopped
  split
  · exact ⟨_, _, _, rfl⟩
  · exact ⟨_, _, _, rfl⟩
  · exact ⟨_, _, _, rfl⟩

@[simp] theorem stopped_queue (e : Entry) (n : Nat) : (e.stopped n).queue = e.queue := by
  obtain ⟨_, _, _, h⟩ := stopped_eq e n
  rw [h]

@[simp] theorem stopped_start (e : Entry) (n : Nat) : (e.stopped n).start = e.start := by
  obtain ⟨_, _, _, h⟩ := stopped_eq e n
  rw [h]

@[simp] theorem stopped_requester (e : Entry) (n : Nat) : (e.stopped n).requester = e.requester := by
  obtain ⟨_, _, _, h⟩ := stopped_eq e n
  rw [h]

@[simp] theorem stopped_tag (e : Entry) (n : Nat) : (e.stopped n).tag = e.tag := by
  obtain ⟨_, _, _, h⟩ := stopped_eq e n
  rw [h]

theorem stopFrees_iff (e : Entry) : e.stopFrees = true ↔ e.state = .closed ∨ e.state = .failed := by
  simp [Entry.stopFrees]

/-- An entry of a queue as STOP leaves it, the payload writes that wait at the arbiter being withdrawn (R42, R146). -/
def stoppedIn (s : State) (e : Entry) : Entry := e.stopped (s.mem.payloadWaiting e)

theorem payloadWaiting_eq (s : State) (e : Entry) : s.mem.payloadWaiting e = s.withdrawnWrites e.queue e :=
  List.countP_eq_length_filter

/-- The entries that a STOP resolves at once are those it does not free and leaves ready (R41, R42). -/
theorem resolvedByStop_eq (s : State) (q : QueueId) : s.resolvedByStop q =
    (s.entriesOf q).filter (fun e => (stoppedIn s e).ready && !e.stopFrees) := by
  refine List.filter_congr (fun e he => ?_)
  rw [stoppedIn, payloadWaiting_eq, entriesOf_queue he]
  cases hs : e.state with
  | filling => simp [stopped_of_filling hs, Entry.ready, Entry.stopFrees, hs]
  | writing => simp [stopped_of_writing hs, Entry.ready, Entry.stopFrees, hs, Nat.sub_eq_zero_iff_le]
  | discarding => simp [stopped_of_other, Entry.ready, Entry.stopFrees, hs]
  | sealing => simp [stopped_of_other, Entry.ready, hs]
  | closed => simp [Entry.stopFrees, hs]
  | failed => simp [Entry.stopFrees, hs]

/-- The ABANDONED entry of an entry that a STOP resolves (R43, R174). -/
theorem abandonedLog_stoppedIn {s : State} {q : QueueId} {e : Entry} (h : e ∈ s.resolvedByStop q) :
    (stoppedIn s e).abandonedLog =
      abandonedLogEntry e (match e.state with | .discarding => e.cause | _ => some (e.cause.getD .stop)) := by
  have hready := (List.mem_filter.1 (resolvedByStop_eq s q ▸ h)).2
  rw [Bool.and_eq_true, ready_iff] at hready
  obtain ⟨⟨hdiscarding, -, -⟩, -⟩ := hready
  rw [stoppedIn] at hdiscarding ⊢
  cases hs : e.state with
  | filling => rw [stopped_of_filling hs]; rfl
  | writing => rw [stopped_of_writing hs]; rfl
  | discarding => rw [stopped_of_other (by rw [hs]; decide) (by rw [hs]; decide)]; rfl
  | sealing => rw [stopped_of_other (by rw [hs]; decide) (by rw [hs]; decide), hs] at hdiscarding; cases hdiscarding
  | closed => rw [stopped_of_other (by rw [hs]; decide) (by rw [hs]; decide), hs] at hdiscarding; cases hdiscarding
  | failed => rw [stopped_of_other (by rw [hs]; decide) (by rw [hs]; decide), hs] at hdiscarding; cases hdiscarding

/-! ### The Reservation Table after a STOP -/

theorem mem_stoppedEntries {s : State} {q : QueueId} {y : Entry} (hy : y.queue = q) : y ∈ s.stoppedEntries q ↔
    ∃ e ∈ s.entriesOf q, e.stopFrees = false ∧ stoppedIn s e = y := by
  simp only [State.stoppedEntries, List.mem_map, List.mem_filter, mem_entriesOf]
  constructor
  · rintro ⟨e, ⟨he, hkept⟩, heq⟩
    split at heq
    next hq => exact ⟨e, ⟨he, hq⟩, by simpa [hq] using hkept, heq⟩
    next hq => exact absurd (heq ▸ hy) hq
  · rintro ⟨e, ⟨he, hq⟩, hkept, heq⟩
    exact ⟨e, ⟨he, by simp [hkept]⟩, by rw [if_pos hq]; exact heq⟩

/-- The entries that a STOP resolves, in the order of their grants, as it leaves them. -/
theorem ready_stoppedEntries (s : State) (q : QueueId) :
    ((s.stoppedEntries q).filter (fun e => decide (e.queue = q))).filter Entry.ready =
      (s.resolvedByStop q).map (stoppedIn s) := by
  rw [resolvedByStop_eq, State.stoppedEntries, State.entriesOf]
  simp only [List.filter_map, List.filter_filter]
  refine (List.map_congr_left (fun e he => ?_)).trans (congrArg _ (List.filter_congr (fun e _ => ?_)))
  · have hq : e.queue = q := by
      by_contra hne
      simp [hne] at he
    rw [if_pos hq]
    rfl
  · by_cases hq : e.queue = q
    · simp [hq, stoppedIn, Bool.and_comm]
    · simp [hq]

end Sys2Proof.Machine.Laws

namespace Sys2Proof.Machine.Laws

open Sys2Proof Sys2Proof.Machine

/-! ### Resolution by case 1 of R43 -/

theorem resolveStopped_log (es : List Entry) (s : State) :
    (es.foldl State.resolveStopped s).log = s.log.appendAll (es.map Entry.abandonedLog) := by
  induction es generalizing s with
  | nil => rfl
  | cons e es ih =>
    have hlog : (s.resolveStopped e).log = s.log.append e.abandonedLog := decline_log _ _ _ _
    exact (ih _).trans (by rw [hlog]; rfl)

theorem resolveStopped_arrivals (es : List Entry) (s : State) :
    (es.foldl State.resolveStopped s).sys.arrivals = s.sys.arrivals := by
  induction es generalizing s with
  | nil => rfl
  | cons e es ih => exact (ih _).trans (answersOnly_decline s e.requester e.tag e.abandonedLog).arrivals

/-- The resolved entries leave the Reservation Table, and no other. -/
theorem mem_resolveStopped (es : List Entry) {s : State} {y : Entry} : y ∈ (es.foldl State.resolveStopped s).reservations ↔
    y ∈ s.reservations ∧ ∀ e ∈ es, ¬(y.queue = e.queue ∧ y.start = e.start) := by
  induction es generalizing s with
  | nil => exact ⟨fun h => ⟨h, fun _ he => absurd he List.not_mem_nil⟩, fun h => h.1⟩
  | cons e es ih =>
    have hstep : y ∈ (s.resolveStopped e).reservations ↔
        y ∈ s.reservations ∧ ¬(y.queue = e.queue ∧ y.start = e.start) := by
      rw [State.resolveStopped, freeEntry_reservations,
        (answersOnly_decline s e.requester e.tag e.abandonedLog).reservations, List.mem_filter, same_eq, Bool.not_eq_true',
        decide_eq_false_iff_not]
    rw [List.foldl_cons, ih, hstep, List.forall_mem_cons, and_assoc]

section Resolution

variable {x : Transaction} {reason : Reason} (hnone : x.answer = none) (hb : x.beatsIn = true)

include hnone hb

theorem StandsOrDeclined.resolveStopped {u : State} (h : StandsOrDeclined x reason u) (e : Entry) :
    StandsOrDeclined x reason (u.resolveStopped e) :=
  (h.decline hnone e.requester e.tag (l := e.abandonedLog) (.inr hb)).of_sys rfl

/-- The producer of a resolved entry is declined, its beats being in (R43). -/
theorem StandsOrDeclined.resolveStopped_declined {u : State} (h : StandsOrDeclined x reason u) {es : List Entry} {e : Entry}
    (he : e ∈ es) (hr : x.request.requester = e.requester) (ht : x.request.tag = e.tag) :
    Declined x reason (es.foldl State.resolveStopped u) :=
  foldl_reaches (P := StandsOrDeclined x reason) (A := Declined x reason) (fun _ a _ hv => hv.resolveStopped hnone hb a)
    (fun _ a hv => (hv.decline a.requester a.tag a.abandonedLog).of_sys rfl)
    (fun _ hv => (hr ▸ ht ▸ hv.declined hnone (l := e.abandonedLog) (.inr hb)).of_sys rfl) h he

end Resolution

/-! ### Steps 1 to 3 of a STOP (R95) -/

/-- The bridge when the waiters of a stopped queue have been released and its entries acted on. -/
def stopReleased (s : State) (q : QueueId) : State :=
  ((s.modifyQueue q Queue.stopping).releaseAll q .state).stopEntries q

theorem stopEntries_sys (s : State) (q : QueueId) : (s.stopEntries q).sys = s.sys := rfl
theorem stopEntries_link (s : State) (q : QueueId) : (s.stopEntries q).link = s.link := rfl
theorem stopEntries_log (s : State) (q : QueueId) : (s.stopEntries q).log = s.log := rfl
theorem stopEntries_reservations (s : State) (q : QueueId) : (s.stopEntries q).reservations = s.stoppedEntries q := rfl

theorem stoppedEntries_congr {s u : State} (hr : u.reservations = s.reservations) (hm : u.mem = s.mem) (q : QueueId) :
    u.stoppedEntries q = s.stoppedEntries q := by
  rw [State.stoppedEntries, State.stoppedEntries, hr, hm]

theorem stopReleased_frame (s : State) (q : QueueId) : (stopReleased s q).sys.arrivals = s.sys.arrivals ∧
    (stopReleased s q).link = s.link ∧ (stopReleased s q).reservations = s.stoppedEntries q ∧
    (stopReleased s q).log = s.log.appendAll (((s.queue q).pushWaiters ++ (s.queue q).popWaiters).map
      (fun w => queueLogEntry .state w.requester w.tag q)) := by
  have h := answersOnly_releaseAll (s.modifyQueue q Queue.stopping) q .state
  have hlog := releaseAll_log (s.modifyQueue q Queue.stopping) q .state
  rw [modifyQueue_queue_same] at hlog
  rw [stopReleased, stopEntries_sys, stopEntries_link, stopEntries_log, stopEntries_reservations]
  exact ⟨h.arrivals, h.link, stoppedEntries_congr h.reservations h.mem q, hlog⟩

/-- Resolution takes the entries that the STOP leaves ready, in the order of their grants. -/
theorem stopActs_eq (s : State) (q : QueueId) :
    s.stopActs q = ((s.resolvedByStop q).map (stoppedIn s)).foldl State.resolveStopped (stopReleased s q) := by
  obtain ⟨-, -, hentries, -⟩ := stopReleased_frame s q
  rw [← ready_stoppedEntries, ← hentries]
  rfl

theorem stopActs_log (s : State) (q : QueueId) : (s.stopActs q).log = s.log.appendAll (s.stopLogEntries q) := by
  obtain ⟨-, -, -, hlog⟩ := stopReleased_frame s q
  rw [stopActs_eq, resolveStopped_log, hlog, ← appendAll_append, List.map_map, State.stopLogEntries]
  exact congrArg (fun es => s.log.appendAll (_ ++ es)) (List.map_congr_left (fun e he => abandonedLog_stoppedIn he))

theorem stopActs_arrivals (s : State) (q : QueueId) : (s.stopActs q).sys.arrivals = s.sys.arrivals := by
  rw [stopActs_eq, resolveStopped_arrivals, (stopReleased_frame s q).1]

theorem stopActs_link (s : State) (q : QueueId) : (s.stopActs q).link = s.link := by
  obtain ⟨-, -, hlink, -⟩ := resolveStopped_frame ((s.resolvedByStop q).map (stoppedIn s)) (stopReleased s q)
  rw [stopActs_eq, hlink, (stopReleased_frame s q).2.1]

/-- The producer of an entry that the STOP resolves has been answered DECLINE (R43). -/
theorem stopActs_answers {s : State} {q : QueueId} {e : Entry} (he : e ∈ s.resolvedByStop q)
    (hw : s.writeReady e.requester e.tag) :
    (⟨e.requester, e.tag, .decline, []⟩ : Response) ∈ (s.stopActs q).sys.sent := by
  have hbeats : ∀ x, s.transaction e.requester e.tag = some x → x.beatsIn = true := by
    obtain ⟨x, hx, -, hrec, -⟩ := hw
    rintro y hy
    obtain rfl : x = y := Option.some.inj (hx.symm.trans hy)
    exact (beatsIn_iff x).2 (.inr hrec)
  refine mem_sent_of_writeReady (reason := .state) hw (fun x hx hnone => ?_)
  obtain ⟨hr, ht⟩ := transaction_named hx
  have hstands : StandsOrDeclined x .state (s.modifyQueue q Queue.stopping) := .inl (by rw [hr, ht]; exact hx)
  have hreleased : StandsOrDeclined x .state (stopReleased s q) :=
    (hstands.releaseAll hnone q).of_sys (stopEntries_sys _ _)
  rw [stopActs_eq]
  exact hreleased.resolveStopped_declined hnone (hbeats x hx) (List.mem_map_of_mem he)
    (hr.trans (stopped_requester e _).symm) (ht.trans (stopped_tag e _).symm)

section Entries

variable {s : State} {q : QueueId} (hd : ((s.entriesOf q).map (fun e => e.start)).Nodup) {e : Entry} (he : e ∈ s.entriesOf q)

include hd he

/-- An entry that STOP neither frees nor leaves ready stays, as STOP makes it (R42). -/
theorem stopActs_keeps (hf : e.stopFrees = false) (hr : (stoppedIn s e).ready = false) :
    stoppedIn s e ∈ (s.stopActs q).reservations := by
  have hq : (stoppedIn s e).queue = q := (stopped_queue e _).trans (entriesOf_queue he)
  rw [stopActs_eq, mem_resolveStopped, (stopReleased_frame s q).2.2.1, mem_stoppedEntries hq]
  refine ⟨⟨e, he, hf, rfl⟩, fun y hy hsame => ?_⟩
  obtain ⟨k, hk, rfl⟩ := List.mem_map.1 hy
  rw [resolvedByStop_eq, List.mem_filter, Bool.and_eq_true] at hk
  obtain ⟨hmem, hready, -⟩ := hk
  obtain rfl : e = k := entriesOf_start_inj hd he hmem (by simpa [stoppedIn] using hsame.2)
  rw [hr] at hready
  cases hready

/-- An entry that STOP frees, or leaves ready and so resolves, is gone (R42, R43). -/
theorem stopActs_removes (h : e.stopFrees = true ∨ (stoppedIn s e).ready = true) :
    ∀ y ∈ (s.stopActs q).reservations, ¬(y.queue = q ∧ y.start = e.start) := by
  rintro y hy ⟨hq, hp⟩
  rw [stopActs_eq, mem_resolveStopped, (stopReleased_frame s q).2.2.1, mem_stoppedEntries hq] at hy
  obtain ⟨⟨k, hk, hf, rfl⟩, hleft⟩ := hy
  obtain rfl : e = k := entriesOf_start_inj hd he hk (by simpa [stoppedIn] using hp.symm)
  have hready := h.resolve_left (by rw [hf]; decide)
  refine hleft _ (List.mem_map_of_mem (a := e) ?_) ⟨rfl, rfl⟩
  rw [resolvedByStop_eq, List.mem_filter, hready, hf]
  exact ⟨he, rfl⟩

end Entries

/-! ### The whole STOP (R95) -/

theorem actStop_of_stoppable {s : State} {q : QueueId} (h : s.stoppable q) :
    s.act q .stop = ⟨s.stopQueue q, (s.stopQueue q).stopResult q, []⟩ := by
  rw [State.act, State.actStop]
  obtain h | h | h := h <;> rw [h]

theorem testStop_frame (s : State) (q : QueueId) : (s.testStop q).sys = s.sys ∧ (s.testStop q).link = s.link ∧
    (s.testStop q).log = s.log ∧ (s.testStop q).reservations = s.reservations := by
  obtain ⟨-, h⟩ | ⟨-, h⟩ := testStop_cases s q
  · rw [h]
    exact ⟨rfl, rfl, rfl, rfl⟩
  · rw [h]
    exact ⟨rfl, rfl, rfl, rfl⟩

/-- Beside its steps 1 to 3, a STOP grants freed entries to other queues' pushes, and may bring its own queue to STOPPED. -/
theorem startsGrants_stopQueue {s : State} (ha : s.sys.arrivals = []) (q : QueueId) :
    StartsGrants (s.stopActs q) (s.stopQueue q) := by
  obtain ⟨harr, hsent, hlink, hlog, hentries⟩ := startsGrants_arbitrateIfFreed s ((stopActs_arrivals s q).trans ha)
  obtain ⟨hsys, htlink, htlog, htentries⟩ := testStop_frame (s.arbitrateIfFreed (s.stopActs q)) q
  rw [State.stopQueue]
  exact ⟨by rw [hsys, harr], by rw [hsys, hsent], htlink.trans hlink, htlog.trans hlog, by rw [htentries]; exact hentries⟩

/-- R42 and R43, for each state of an entry. -/
theorem stopActedOn_of {s t : State} {q : QueueId}
    (hkeeps : ∀ e ∈ s.entriesOf q, e.stopFrees = false → (stoppedIn s e).ready = false → stoppedIn s e ∈ t.reservations)
    (hremoves : ∀ e ∈ s.entriesOf q, e.stopFrees = true ∨ (stoppedIn s e).ready = true → t.entryAt q e.start = none) :
    s.stopActedOn t q := by
  intro e he
  have hkept := hkeeps e he
  have hgone := hremoves e he
  have hfrees := stopFrees_iff e
  have hready := ready_iff (stoppedIn s e)
  rw [stoppedIn, payloadWaiting_eq, entriesOf_queue he] at hkept hgone hready
  rw [← Bool.not_eq_true, ← Bool.not_eq_true, hready, hfrees] at hkept
  rw [hready, hfrees] at hgone
  refine ⟨fun hs hmore => ?_, fun hs => ⟨fun hleft => ?_, fun hnone hall => ?_⟩, fun hs hmore => ?_, fun hs => ?_,
    fun hs => ?_⟩
  · rw [stopped_of_filling hs] at hkept
    exact hkept (by rw [hs]; decide) (fun ⟨_, hall, _⟩ => Nat.ne_of_lt hmore hall)
  · rw [stopped_of_writing hs] at hkept
    exact hkept (by rw [hs]; decide) (fun ⟨_, _, hnone⟩ => Nat.sub_ne_zero_of_lt hleft hnone)
  · rw [stopped_of_writing hs] at hgone
    exact hgone (.inr ⟨rfl, hall, Nat.sub_eq_zero_of_le hnone⟩)
  · rw [stopped_of_other (by rw [hs]; decide) (by rw [hs]; decide)] at hkept
    exact hkept (by rw [hs]; decide) (fun ⟨_, hall, hnone⟩ => by omega)
  · rw [stopped_of_other (by rw [hs]; decide) (by rw [hs]; decide), hs] at hkept
    exact hkept (by decide) (fun ⟨h, _⟩ => by cases h)
  · exact hgone (.inl hs)

/-- Settles O17. -/
theorem stopActsOnEachEntry : Obligations.StopActsOnEachEntry := by
  intro s q superseded ho ha _ hd hs
  obtain ⟨harr, hsent, hlink, hlog, new, hnew, hwait⟩ := startsGrants_stopQueue (s := s.clearOutputs) ha q
  have hexec := exec_action ho
  rw [actStop_of_stoppable (s := s.clearOutputs) hs] at hexec
  rw [stopActs_arrivals] at harr
  rw [stopActs_link] at hlink
  rw [stopActs_log] at hlog
  have hkeeps := fun {e} => stopActs_keeps (s := s.clearOutputs) hd (e := e)
  have hremoves := fun {e} => stopActs_removes (s := s.clearOutputs) hd (e := e)
  have hanswers := fun {e} => stopActs_answers (s := s.clearOutputs) (q := q) (e := e)
  have hwaiters : ((s.clearOutputs.stopActs q).queue q).pushWaiters = [] := by rw [stopActs_queue_same]
  generalize s.clearOutputs.stopQueue q = u at hexec harr hsent hlink hlog hnew
  generalize s.clearOutputs.stopActs q = acted at hsent hnew hwait hkeeps hremoves hanswers hwaiters
  rw [finish_executed_of_no_arrival _ _ _ (harr.trans ha) (by rw [hlink]; exact ho.2)] at hexec
  refine ⟨_, hexec, hlog, fun e he hw => ?_, stopActedOn_of (fun e he hf hr => ?_) (fun e he h => ?_)⟩
  · rw [executed_sys, hsent]
    exact hanswers he hw
  · rw [executed_reservations, hnew]
    exact List.mem_append_left _ (hkeeps he hf hr)
  · refine List.find?_eq_none.2 (fun y hy => ?_)
    rw [decide_eq_true_eq]
    rw [executed_reservations, hnew] at hy
    obtain hold | hgranted := List.mem_append.1 hy
    · exact hremoves he h y hold
    · rintro ⟨rfl, -⟩
      exact hwait y hgranted hwaiters

end Sys2Proof.Machine.Laws

namespace Sys2Proof.Machine.Laws

open Sys2Proof Sys2Proof.Machine

/-! ### Pops granted as they are taken (R57, R58, R73, R113) -/

/-- A memory access is never decoded as a pop. -/
theorem guardAccess_ne_pop (s : State) (c : RequesterClass) (m : Addr) (L : BurstLength) (q : QueueId) :
    s.guardAccess c m L ≠ .pop q := by
  unfold State.guardAccess
  split <;> exact Decoded.noConfusion

/-- Only reads are decoded as pops (R122). -/
theorem direction_of_decode_pop {s : State} {r : Request} {q : QueueId} (h : s.decode r = .pop q) : r.direction = .read := by
  unfold State.decode at h
  dsimp only at h
  split at h
  · exact absurd h (guardAccess_ne_pop _ _ _ _ _)
  · split at h
    · exact absurd h (guardAccess_ne_pop _ _ _ _ _)
    · exact absurd h (guardAccess_ne_pop _ _ _ _ _)
    · cases h
    · cases h
    next hread => exact hread
    · cases h
    · cases h

/-- Taking a well-placed pop makes its tracker entry, and decides it (R119, R134). -/
theorem take_pop {s : State} {r : Request} {q : QueueId} (hw : wellPlaced r) (hd : s.decode r = .pop q) :
    s.take r = (s.tracked r (.pop q) none).decidePop q r.requester r.tag r.beats := by
  have hmode : initialBeatMode r (.pop q) = none := by simp only [initialBeatMode, direction_of_decode_pop hd]
  rw [State.take, outcome_of_wellPlaced s hw, hd, newTransaction, hmode]
  rfl

/-- Case 6 of R73. -/
theorem decidePop_granted {s : State} {q : QueueId} {L : BurstLength} (hsize : (s.queue q).config.ringSize ≠ 0)
    (hs : (s.queue q).state = .running ∨ (s.queue q).state = .draining) (hp : (s.queue q).popWaiters = [])
    (hv : L.val ≤ (s.queue q).visible) (hl : (s.queue q).popEntries.length < 16) (r : Requester) (t : Tag) :
    s.decidePop q r t L = s.grantPop q r t L := by
  have hactive : s.decidePopActive q r t L = s.grantPop q r t L := by
    simp only [State.decidePopActive, hp, ne_eq, not_true_eq_false, if_false, Nat.not_lt.2 hv, Config.popEntries, hl, if_true]
  rw [State.decidePop]
  obtain h | h := hs <;> simp only [hsize, if_false, h, hactive]

/-- Words taken from the front of the visible ones are visible no more (R7). -/
theorem wordsBetween_advance {a b : Position} {n : Nat} (h : n ≤ wordsBetween a b) :
    wordsBetween (advance a n) b = wordsBetween a b - n := by
  unfold wordsBetween advance at *
  bv_omega

/-- A pop grant or FLUSH sets the armed flag exactly where visible is below a threshold that is not 0 (R113). -/
theorem rearmBelow_eq {x : Queue} {v : Nat} (hv : x.visible = v) : x.rearmBelow = { x with
    noticeArmed := x.noticeArmed || decide (x.config.threshold ≠ 0 ∧ v < x.config.threshold) } := by
  rw [Queue.rearmBelow, hv]
  split
  next h => rw [decide_eq_true h, Bool.or_true]
  next h => rw [decide_eq_false h, Bool.or_false]

/-- A pop of words that are visible: read moves over them, a pop entry is made, the notice is re-armed where few enough are
left, and the ring reads are presented (R57, R58, R113). -/
theorem grantPop_eq {s : State} {q : QueueId} {L : BurstLength} (h : L.val ≤ (s.queue q).visible) (r : Requester) (t : Tag) :
    s.grantPop q r t L = (s.setQueue q { s.queue q with
      read := advance (s.queue q).read L.val
      popEntries := (s.queue q).popEntries ++
        [newPopEntry (s.queue q) r t L (popReads (s.queue q).config q (s.queue q).read L).length]
      noticeArmed := (s.queue q).noticeArmed || decide ((s.queue q).config.threshold ≠ 0 ∧
        (s.queue q).visible - L.val < (s.queue q).config.threshold) }).presenting
      (popReads (s.queue q).config q (s.queue q).read L) := by
  rw [State.grantPop, rearmBelow_eq (v := (s.queue q).visible - L.val)]
  · rfl
  · exact wordsBetween_advance h

/-- Settles O28: the request is taken as it is presented, and case 6 of R73 grants it. -/
theorem popThatVisibleCanSatisfyIsGranted : Obligations.PopThatVisibleCanSatisfyIsGranted := by
  intro s r q ht hw hd hsize hs hp hv hl
  have hexec : exec (.takeRequest r) s = .next (s.clearOutputs.presentRequest r) :=
    congrArg _ (presentAndArbitrate_of_not_due (s := s.clearOutputs) r ht.2.1)
  have hdecide := decidePop_granted (s := s.clearOutputs.tracked r (.pop q) none) hsize hs hp hv hl r.requester r.tag
  refine ⟨popReads (s.queue q).config q (s.queue q).read r.beats, rfl, ?_⟩
  rw [hexec, presentRequest_of_takes (s := s.clearOutputs) ht.1 (canTake_of_takes ht), take_pop (s := s.clearOutputs) hw hd,
    hdecide,
    grantPop_eq (s := s.clearOutputs.tracked r (.pop q) none) hv]
  rfl

end Sys2Proof.Machine.Laws

namespace Sys2Proof.Machine.Laws

open Sys2Proof Sys2Proof.Machine

/-! ### Waiter lists that are empty, or whose waiters are all answered DRAINED (R78, R80) -/

theorem reexaminePush_of_no_waiter {s : State} {q : QueueId} (h : (s.queue q).pushWaiters = []) : s.reexaminePush q = s := by
  rw [State.reexaminePush, h]
  rfl

/-- A push list re-examination sends no response. -/
theorem reexaminePush_sent (s : State) (q : QueueId) : (s.reexaminePush q).sys.sent = s.sys.sent :=
  (reexaminePushFrom_spec (P := fun u => u.sys.sent = s.sys.sent) (fun u w h _ _ => (grantHead_sent u q w).trans h) _ rfl
    rfl).1

/-- An answer touches no queue, so it may come before or after a change of one. -/
theorem answer_setQueue (s : State) (q : QueueId) (x : Queue) (r : Requester) (t : Tag) (status : Status)
    (reason : Option Reason) (data : List Word) :
    (s.setQueue q x).answer r t status reason data = (s.answer r t status reason data).setQueue q x := by
  have htr : (s.setQueue q x).transaction r t = s.transaction r t := rfl
  unfold State.answer
  rw [htr]
  cases s.transaction r t with
  | none => rfl
  | some y =>
    dsimp only
    by_cases hn : y.answer.isSome = true
    · rw [if_pos hn, if_pos hn]
    · rw [if_neg hn, if_neg hn]
      by_cases hb : y.beatsIn = true
      · rw [if_pos hb, if_pos hb]
        rfl
      · rw [if_neg hb, if_neg hb]
        rfl

theorem declineQueue_setQueue (s : State) (q k : QueueId) (x : Queue) (r : Requester) (t : Tag) (reason : Reason) :
    (s.setQueue k x).declineQueue q r t reason = (s.declineQueue q r t reason).setQueue k x :=
  answer_setQueue (s.appendLog _) k x r t .decline (some reason) []

theorem setQueue_same {s : State} {q : QueueId} {x : Queue} (h : s.queue q = x) : s.setQueue q x = s := by
  have hqueues : (s.setQueue q x).queues = s.queues := queues_ext fun k => by
    rw [setQueue_queue]
    split
    next hk => rw [hk, h]
    next => rfl
  exact congrArg (fun v => { s with queues := v }) hqueues

/-- A DRAINING queue without words to give and without an entry answers every pop waiter DECLINE (DRAINED) (R80). -/
theorem reexaminePopFrom_drained {q : QueueId} (ws : List Waiter) {s : State} (hs : (s.queue q).state = .draining)
    (hv : (s.queue q).visible = 0) (ho : s.ownsNone q = true) (hws : (s.queue q).popWaiters = ws) :
    s.reexaminePopFrom q ws = (s.setWaiters q .pop []).declineWaiters q .drained ws := by
  induction ws generalizing s with
  | nil =>
    have hself : s.queue q = (s.queue q).withWaiters .pop [] := by rw [← hws]; rfl
    exact (setQueue_same hself).symm
  | cons w ws ih =>
    have hfits : ¬s.popFits q w.length = true := fun h => by
      have hle := ((popFits_iff s q w.length).1 h).1
      have hpos := w.length.property.1
      omega
    have hdrained : s.drainedFor q w.length = true :=
      (drainedFor_iff s q w.length).2 ⟨by rw [hv]; exact w.length.property.1, hs, ho⟩
    have hframe := answersOnly_declineQueue (s.setWaiters q .pop ws) q w.requester w.tag .drained
    have hqueue := (hframe.queue q).trans (setWaiters_queue_same s q .pop ws)
    have hrest := ih (s := (s.setWaiters q .pop ws).declineQueue q w.requester w.tag .drained) (by rw [hqueue]; exact hs)
      (by rw [hqueue]; exact hv) (by rw [State.ownsNone, hframe.entriesOf]; exact ho) (by rw [hqueue]; rfl)
    rw [State.reexaminePopFrom, if_neg hfits, if_pos hdrained, hrest]
    refine congrArg (fun u => State.declineWaiters u q .drained ws) ?_
    rw [State.setWaiters, State.modifyQueue, hqueue, ← declineQueue_setQueue, State.setWaiters, State.modifyQueue,
      setQueue_setQueue]
    rfl

theorem reexaminePop_drained {s : State} {q : QueueId} (hs : (s.queue q).state = .draining)
    (hv : (s.queue q).visible = 0) (ho : s.ownsNone q = true) : s.reexaminePop q = s.releaseList q .pop .drained := by
  rw [reexaminePop_active (.inr hs)]
  exact reexaminePopFrom_drained _ hs hv ho rfl

/-! ### FLUSH (R67, R102) -/

theorem actFlush_of_moving {s : State} {q : QueueId}
    (h : (s.queue q).state = .running ∨ (s.queue q).state = .faulted ∨ (s.queue q).state = .draining) :
    s.act q .flush = ⟨s.flushQueue q, .done, []⟩ := by
  rw [State.act, State.actFlush]
  obtain h | h | h := h <;> simp only [h]

theorem actFlush_of_refused {s : State} {q : QueueId} (h : (s.queue q).state = .stopped ∨ (s.queue q).state = .stopping) :
    s.act q .flush = ⟨s, .refusedState, []⟩ := by
  rw [State.act, State.actFlush]
  obtain h | h := h <;> rw [h]

/-- FLUSH of a queue with a pop entry outstanding: release stays where it is. -/
theorem flushQueue_of_pops {s : State} {q : QueueId} (h : (s.queue q).popEntries ≠ []) : s.flushQueue q =
    (s.setQueue q { s.queue q with
      read := (s.queue q).commit
      noticeArmed := (s.queue q).noticeArmed || decide ((s.queue q).config.threshold ≠ 0) }).lastEntryGone q := by
  have hp : (s.queue q).popEntries.isEmpty = false := by simpa using h
  simp only [State.flushQueue, State.modifyQueue, Queue.flushed, hp, Bool.false_eq_true, if_false]

/-- FLUSH of a queue without a pop entry: release follows read, and the push waiters are re-examined. -/
theorem flushQueue_of_no_pops {s : State} {q : QueueId} (h : (s.queue q).popEntries = []) : s.flushQueue q =
    ((s.setQueue q { s.queue q with
      read := (s.queue q).commit
      release := (s.queue q).commit
      noticeArmed := (s.queue q).noticeArmed || decide ((s.queue q).config.threshold ≠ 0) }).reexaminePush q).lastEntryGone
        q := by
  simp only [State.flushQueue, State.modifyQueue, Queue.flushed, h, List.isEmpty_nil, if_true]

/-- Grants leave a queue that is not DRAINING so, and take no entry from one that owns some. -/
theorem Granted.lastEntryGone {s t : State} (h : Granted s t) {q : QueueId}
    (hs : (s.queue q).state ≠ .draining ∨ s.entriesOf q ≠ []) : t.lastEntryGone q = t := by
  refine lastEntryGone_of_not ?_
  rw [(h.queues q).state, ownsNone_iff]
  rintro ⟨hdraining, hnone⟩
  obtain ⟨-, ⟨new, hnew, -⟩, -⟩ := h
  rw [State.entriesOf, hnew, List.filter_append, List.append_eq_nil_iff] at hnone
  exact hs.elim (fun hn => hn hdraining) (fun hn => hn hnone.1)

/-! ### FLUSH of a DRAINING queue that owns no entry (R80, R93, R102) -/

/-- The bridge when the queue is flushed and its pop waiters are answered DRAINED. -/
def flushedDrained (s : State) (q : QueueId) : State := (s.setQueue q (s.queue q).flushed).releaseList q .pop .drained

theorem flushedDrained_eq (s : State) (q : QueueId) : flushedDrained s q =
    (s.setQueue q { (s.queue q).flushed with popWaiters := [] }).declineWaiters q .drained (s.queue q).popWaiters := by
  rw [flushedDrained, State.releaseList, State.setWaiters, State.modifyQueue, setQueue_queue_same, setQueue_setQueue]
  rfl

theorem answersOnly_flushedDrained (s : State) (q : QueueId) :
    AnswersOnly (s.setQueue q { (s.queue q).flushed with popWaiters := [] }) (flushedDrained s q) := by
  rw [flushedDrained_eq]
  exact answersOnly_declineWaiters q .drained _ _

theorem flushedDrained_queue (s : State) (q : QueueId) :
    (flushedDrained s q).queue q = { (s.queue q).flushed with popWaiters := [] } :=
  ((answersOnly_flushedDrained s q).queue q).trans (setQueue_queue_same s q _)

theorem flushedDrained_log (s : State) (q : QueueId) : (flushedDrained s q).log =
    s.log.appendAll ((s.queue q).popWaiters.map (fun w => queueLogEntry .drained w.requester w.tag q)) := by
  rw [flushedDrained_eq, declineWaiters_log]
  rfl

/-- Every pop waiter has its answer. -/
theorem flushedDrained_declined {s : State} {q : QueueId} {w : Waiter} (hw : w ∈ (s.queue q).popWaiters) {x : Transaction}
    (hx : s.transaction w.requester w.tag = some x) (hnone : x.answer = none) :
    Declined x .drained (flushedDrained s q) := by
  obtain ⟨hr, ht⟩ := transaction_named hx
  have hstands : StandsOrDeclined x .drained (s.setQueue q { (s.queue q).flushed with popWaiters := [] }) :=
    .inl (by rw [hr, ht]; exact hx)
  rw [flushedDrained_eq]
  exact hstands.declineWaiters_declined hnone hr ht q hw

theorem flushQueue_of_drained {s : State} {q : QueueId} (hs : (s.queue q).state = .draining) (ho : s.entriesOf q = [])
    (hp : (s.queue q).pushWaiters = []) : s.flushQueue q = (flushedDrained s q).testDrain q := by
  have hpush : (if (s.queue q).popEntries.isEmpty then (s.modifyQueue q Queue.flushed).reexaminePush q
      else s.modifyQueue q Queue.flushed) = s.setQueue q (s.queue q).flushed := by
    rw [reexaminePush_of_no_waiter (by rw [modifyQueue_queue_same]; exact hp), ite_self, State.modifyQueue]
  have hqueue : (s.setQueue q (s.queue q).flushed).queue q = (s.queue q).flushed := setQueue_queue_same s q _
  have howns : (s.setQueue q (s.queue q).flushed).ownsNone q = true := (ownsNone_iff s q).2 ho
  rw [State.flushQueue, hpush, State.lastEntryGone, if_pos ⟨by rw [hqueue]; exact hs, howns⟩,
    reexaminePop_drained (by rw [hqueue]; exact hs) (by rw [hqueue]; exact flushed_visible _) howns, flushedDrained]

theorem testDrain_frame (s : State) (q : QueueId) : (s.testDrain q).sys = s.sys ∧ (s.testDrain q).link = s.link ∧
    (s.testDrain q).log = s.log := by
  obtain ⟨-, h⟩ | ⟨-, h⟩ := testDrain_cases s q <;> rw [h] <;> exact ⟨rfl, rfl, rfl⟩

/-- What the drain test behind such a FLUSH makes of the queue. -/
theorem flushedDrained_testDrain {s : State} {q : QueueId} (hs : (s.queue q).state = .draining) (ho : s.entriesOf q = []) :
    ((s.queue q).popEntries = [] →
      ((flushedDrained s q).testDrain q).queue q = { (s.queue q).flushed.arrived with popWaiters := [] }) ∧
    ((s.queue q).popEntries ≠ [] →
      ((flushedDrained s q).testDrain q).queue q = { (s.queue q).flushed with popWaiters := [] }) := by
  have hqueue := flushedDrained_queue s q
  have howns : (flushedDrained s q).ownsNone q = true :=
    (ownsNone_iff _ q).2 (((answersOnly_flushedDrained s q).entriesOf q).trans ho)
  refine ⟨fun hpops => ?_, fun hpops => ?_⟩
  · rw [testDrain_of_complete (by rw [hqueue]; exact ⟨hs, howns, hpops, flushed_visible _⟩), setQueue_queue_same, hqueue]
    rfl
  · rw [testDrain_of_not (by rw [hqueue]; exact fun ⟨_, _, h, _⟩ => hpops h), hqueue]

/-- Settles O18. -/
theorem flushMovesReadToCommit : Obligations.FlushMovesReadToCommit := by
  refine ⟨fun s q superseded ho => ⟨fun hs => ?_, fun hs => ?_⟩, fun s q superseded ho harr hs hnone hpush => ?_⟩
  · have hmoving : (s.queue q).state = .running ∨ (s.queue q).state = .faulted ∨ (s.queue q).state = .draining :=
      hs.imp_right (Or.imp_right And.left)
    have hkept : (s.queue q).state ≠ .draining ∨ s.entriesOf q ≠ [] := by
      obtain h | h | ⟨-, h⟩ := hs
      · exact .inl (by rw [h]; decide)
      · exact .inl (by rw [h]; decide)
      · exact .inr h
    have hexec := exec_action ho
    rw [actFlush_of_moving (s := s.clearOutputs) hmoving] at hexec
    refine ⟨fun hpops => ?_, fun hpops => ?_⟩
    · rw [flushQueue_of_pops (s := s.clearOutputs) hpops, (Granted.refl _).lastEntryGone
        (by rw [setQueue_queue_same]; exact hkept)] at hexec
      exact hexec.trans (congrArg _ (finish_executed _ _ _ rfl ho.2))
    · rw [flushQueue_of_no_pops (s := s.clearOutputs) hpops, (granted_reexaminePush _ q).lastEntryGone
        (by rw [setQueue_queue_same]; exact hkept)] at hexec
      refine hexec.trans (congrArg _ (finish_executed _ _ _ (reexaminePush_sent _ q) ?_))
      rw [(granted_reexaminePush _ q).only.link]
      exact ho.2
  · have hexec := exec_action ho
    rw [actFlush_of_refused (s := s.clearOutputs) hs] at hexec
    exact hexec.trans (congrArg _ (finish_executed _ _ _ rfl ho.2))
  · have hexec := exec_action ho
    rw [actFlush_of_moving (s := s.clearOutputs) (.inr (.inr hs)),
      flushQueue_of_drained (s := s.clearOutputs) hs hnone hpush] at hexec
    obtain ⟨hempty, hmore⟩ := flushedDrained_testDrain (s := s.clearOutputs) hs hnone
    obtain ⟨hsys, hlink, hlog⟩ := testDrain_frame (flushedDrained s.clearOutputs q) q
    have hframe := answersOnly_flushedDrained s.clearOutputs q
    have hlink' := hlink.trans hframe.link
    refine ⟨_, hexec.trans (congrArg _ (finish_executed_of_no_arrival _ _ _ (by rw [hsys]; exact hframe.arrivals.trans harr)
      (by rw [hlink']; exact ho.2))), ?_, fun hpops => ?_, fun hpops => ?_, ?_, fun w hw => ?_, ?_⟩
    · by_cases hpops : (s.queue q).popEntries = []
      · rw [executed_queue, hempty hpops]
      · rw [executed_queue, hmore hpops]
    · rw [executed_queue, hempty hpops]
      exact ⟨rfl, rfl, rfl⟩
    · have hp : (s.queue q).popEntries.isEmpty = false := by simpa using hpops
      rw [executed_queue, hmore hpops, clearOutputs_queue, Queue.flushed, hp]
      rfl
    · rw [executed_log, hlog]
      exact flushedDrained_log s.clearOutputs q
    · exact answersHeld_of_declined (fun x hx hunanswered =>
        (flushedDrained_declined (s := s.clearOutputs) hw hx hunanswered).of_sys ((executed_sys ..).trans hsys))
    · rw [State.executed, withLink_link, hlink']
      rfl

end Sys2Proof.Machine.Laws

namespace Sys2Proof.Machine.Laws

open Sys2Proof Sys2Proof.Machine

/-! ### A pop read that completes (R60, R61) -/

theorem popEntryAt_start {x : Queue} {p : Position} {e : PopEntry} (h : x.popEntryAt p = some e) : e.start = p := by
  have hp := List.find?_some h
  simpa using hp

/-- A pop entry among others that start elsewhere is found by its start position. -/
theorem popEntryAt_eq {x : Queue} {e : PopEntry} {before after : List PopEntry} (h : x.popEntries = before ++ e :: after)
    (hd : ∀ k, k ∈ before ∨ k ∈ after → k.start ≠ e.start) : x.popEntryAt e.start = some e := by
  have hbefore : before.find? (fun k => decide (k.start = e.start)) = none :=
    List.find?_eq_none.2 (fun k hk => by simpa using hd k (.inl hk))
  rw [Queue.popEntryAt, h, List.find?_append, hbefore]
  simp

/-- The words of a completion that carries as many as its request asked for. -/
theorem completionWords_full (uses : Nat) (data : List Word) : completionWords uses data.length data = data := by
  refine List.ext_getElem (by simp [completionWords]) (fun i _ hi => ?_)
  simp [completionWords, List.getElem?_eq_getElem hi]

theorem noteMissing_full (s : State) (data : List Word) : s.noteMissing data.length data = s := by
  rw [State.noteMissing, if_neg (Nat.lt_irrefl _)]

/-- The completion of a pop read is routed to its pop entry (R143). -/
theorem complete_popRead {s : State} {n : Nat} {r : MemRequest} {q : QueueId} {p : Position} {first : Nat} {e : PopEntry}
    (ha : s.awaits n r) (ho : r.owner = .popRead q p first) (he : (s.queue q).popEntryAt p = some e) (status : MemStatus)
    (data : List Word) : s.clearOutputs.complete n status data =
      ((s.clearOutputs.numberFreed n).readCompletes q e first r.words status data).finish := by
  have hheld : s.clearOutputs.mem.held n = some ⟨n, r⟩ := ha
  have hentry : ((s.clearOutputs.numberFreed n).queue q).popEntryAt p = some e := he
  simp only [State.complete, hheld]
  show ((s.clearOutputs.numberFreed n).route r status data).finish = _
  simp only [State.route, ho, hentry]

theorem exec_popReadOk {s : State} {n : Nat} {r : MemRequest} {q : QueueId} {p : Position} {first : Nat} {e : PopEntry}
    (ha : s.awaits n r) (ho : r.owner = .popRead q p first) (he : (s.queue q).popEntryAt p = some e) (data : List Word) :
    exec (.popReadOk n data) s = .next (((s.clearOutputs.numberFreed n).noteMissing r.words data).afterRead q
      (e.fill first (completionWords s.freeUses r.words data))).finish :=
  congrArg _ (complete_popRead ha ho he .ok data)

theorem exec_popReadOk_full {s : State} {n : Nat} {q : QueueId} {p : Position} {first : Nat} {a : Addr} {data : List Word}
    {e : PopEntry} (ha : s.awaits n ⟨.popRead q p first, .read, a, data.length, []⟩)
    (he : (s.queue q).popEntryAt p = some e) :
    exec (.popReadOk n data) s =
      .next ((s.clearOutputs.numberFreed n).afterRead q (e.fill first data)).finish := by
  rw [exec_popReadOk ha rfl he, noteMissing_full, completionWords_full]

theorem exec_popReadError {s : State} {n : Nat} {r : MemRequest} {q : QueueId} {p : Position} {first : Nat} {e : PopEntry}
    (ha : s.awaits n r) (ho : r.owner = .popRead q p first) (he : (s.queue q).popEntryAt p = some e) :
    exec (.popReadError n) s = .next ((s.clearOutputs.numberFreed n).afterRead q e.fail).finish :=
  congrArg _ (complete_popRead ha ho he .error [])

/-- One of two reads of a pop has completed: the entry is stored, and waits for the other (R60, R61). -/
theorem afterRead_waits {s : State} {q : QueueId} {e : PopEntry} (h : e.readsOutstanding ≠ 0) (hs : s.sys.sent = [])
    (hr : s.link.softReset = false) : (s.afterRead q e).finish = s.setQueue q { s.queue q with
      popEntries := (s.queue q).popEntries.map (fun y => if y.start = e.start then e else y) } := by
  rw [State.afterRead, if_neg h]
  exact finish_of_no_response _ hs (softResetDone_of_clear _ hr)

/-- With the last read the pop is answered (R62, R63). -/
theorem afterRead_answers {s : State} {q : QueueId} {e : PopEntry} (h : e.readsOutstanding = 0) :
    s.afterRead q e = (s.setPopEntry q e).answerPop q e := by
  rw [State.afterRead, if_pos h]

/-! ### The removal of a pop entry (R65) -/

/-- Where release stands when the pop entry between `before` and `after` has gone (R65). -/
def releaseWithout (x : Queue) (before after : List PopEntry) : Position :=
  match before, after with
  | [], [] => x.read
  | [], next :: _ => next.start
  | _ :: _, _ => x.release

/-- The queue without the pop entry between `before` and `after` (R65). -/
def withoutPop (x : Queue) (before after : List PopEntry) : Queue :=
  { x with popEntries := before ++ after, release := releaseWithout x before after }

section PopEntry

variable {e : PopEntry} {before after : List PopEntry} (hd : ∀ k, k ∈ before ∨ k ∈ after → k.start ≠ e.start)

include hd

theorem filter_other_pops : (before ++ e :: after).filter (fun y => decide (y.start ≠ e.start)) = before ++ after := by
  have hbefore := List.filter_eq_self.2 (fun k hk => decide_eq_true (hd k (.inl hk)))
  have hafter := List.filter_eq_self.2 (fun k hk => decide_eq_true (hd k (.inr hk)))
  rw [List.filter_append, List.filter_cons_of_neg (by simp), hbefore, hafter]

theorem removePop_eq_withoutPop {x : Queue} (h : x.popEntries = before ++ e :: after) :
    x.removePop e = withoutPop x before after := by
  have hrelease : x.releaseAfter e (before ++ after) = releaseWithout x before after := by
    unfold Queue.releaseAfter
    rw [h]
    cases before with
    | nil =>
      simp only [List.nil_append, if_true]
      cases after <;> rfl
    | cons k ks => exact if_neg (hd k (.inl List.mem_cons_self))
  rw [Queue.removePop, h, filter_other_pops hd, hrelease, withoutPop]

/-- The new value of a pop entry takes its place in the list. -/
theorem setPopEntry_eq {s : State} {q : QueueId} {e' : PopEntry} (h : (s.queue q).popEntries = before ++ e :: after)
    (hstart : e'.start = e.start) :
    s.setPopEntry q e' = s.setQueue q { s.queue q with popEntries := before ++ e' :: after } := by
  have hmap : ∀ l : List PopEntry, (∀ k ∈ l, k.start ≠ e.start) →
      l.map (fun y => if y.start = e.start then e' else y) = l :=
    fun l hl => (List.map_congr_left (fun k hk => if_neg (hl k hk))).trans (List.map_id' l)
  rw [State.setPopEntry, State.modifyQueue, h, hstart, List.map_append, List.map_cons, if_pos rfl,
    hmap before (fun k hk => hd k (.inl hk)), hmap after (fun k hk => hd k (.inr hk))]

end PopEntry

/-! ### What follows a removal (R66, R93, R96) -/

/-- The re-examinations behind a removal that turned s into `left`: of the Push Waiter list where release has moved, and of the
Pop Waiter list (R66). -/
def removalReexamined (s left : State) (q : QueueId) : State :=
  (if (left.queue q).release = (s.queue q).release then left else left.reexaminePush q).reexaminePop q

theorem removePop_eq (s : State) (q : QueueId) (e : PopEntry) : s.removePop q e =
    ((removalReexamined s (s.setQueue q ((s.queue q).removePop e)) q).testDrain q).testStop q := rfl

/-- Queue q meets its drain-completion or its stop-completion condition (R89). -/
def spent (s : State) (q : QueueId) : Prop :=
  s.ownsNone q = true ∧ (s.queue q).popEntries = [] ∧
    ((s.queue q).state = .stopping ∨ ((s.queue q).state = .draining ∧ (s.queue q).visible = 0))

theorem testDrain_testStop_of_not_spent {s : State} {q : QueueId} (h : ¬spent s q) : (s.testDrain q).testStop q = s := by
  rw [testDrain_of_not (fun ⟨hs, ho, hp, hv⟩ => h ⟨ho, hp, .inr ⟨hs, hv⟩⟩)]
  exact if_neg (fun hstop => by
    obtain ⟨hs, ho, hp⟩ := (stopComplete_iff s q).1 hstop
    exact h ⟨ho, hp, .inl hs⟩)

theorem testDrain_testStop_of_spent {s : State} {q : QueueId} (h : spent s q) :
    (s.testDrain q).testStop q = s.setQueue q (s.queue q).arrived := by
  obtain ⟨ho, hp, hs | ⟨hs, hv⟩⟩ := h
  · rw [testDrain_of_not (fun ⟨hdraining, _⟩ => by rw [hs] at hdraining; cases hdraining)]
    exact (if_pos ((stopComplete_iff s q).2 ⟨hs, ho, hp⟩)).trans rfl
  · rw [testDrain_of_complete ⟨hs, ho, hp, hv⟩]
    refine if_neg (fun hstop => ?_)
    have hstopping := ((stopComplete_iff _ q).1 hstop).1
    rw [setQueue_queue_same] at hstopping
    cases hstopping

/-- With no push waiting and no pop that could be granted, a removal re-examines nothing. -/
theorem removalReexamined_of_idle {s left : State} {q : QueueId} (hp : (left.queue q).pushWaiters = [])
    (hv : left.reexaminePop q = left) : removalReexamined s left q = left := by
  rw [removalReexamined, reexaminePush_of_no_waiter hp, ite_self, hv]

theorem granted_if_reexaminePush (left : State) (q : QueueId) (c : Prop) [Decidable c] :
    Granted left (if c then left else left.reexaminePush q) := by
  split
  · exact .refl _
  · exact granted_reexaminePush _ _

theorem grantsOnly_removalReexamined (s left : State) (q : QueueId) : GrantsOnly left (removalReexamined s left q) :=
  (granted_if_reexaminePush left q _).only.trans (popsServed_reexaminePop _ q).only

theorem removalReexamined_state (s left : State) (q : QueueId) :
    ((removalReexamined s left q).queue q).state = (left.queue q).state :=
  (popsServed_reexaminePop _ q).queue.state.trans ((granted_if_reexaminePush left q _).queues q).state

/-- Behind the re-examinations of a DRAINING queue: it stays as they leave it, or arrives at STOPPED with no request of it
waiting. -/
theorem removalReexamined_draining (s : State) {left : State} {q : QueueId} (hs : (left.queue q).state = .draining)
    (hp : (left.queue q).pushWaiters = []) :
    let v := removalReexamined s left q
    let drained := left.entriesOf q = [] ∧ (v.queue q).popEntries = [] ∧ (v.queue q).visible = 0
    (drained → (v.testDrain q).testStop q = v.setQueue q (v.queue q).atStopped) ∧
      (¬drained → (v.testDrain q).testStop q = v) := by
  intro v drained
  let pushes := if (left.queue q).release = (s.queue q).release then left else left.reexaminePush q
  have hgranted : Granted left pushes := granted_if_reexaminePush left q _
  have hserved : PopsServed q pushes v := popsServed_reexaminePop pushes q
  have hstate : (v.queue q).state = .draining := (removalReexamined_state s left q).trans hs
  have hnone : v.ownsNone q = true ↔ left.entriesOf q = [] := by
    rw [ownsNone_iff, State.entriesOf, hserved.reservations]
    exact iff_of_eq (congrArg (· = []) (hgranted.entriesOf hp))
  refine ⟨fun ⟨ho, hpops, hv⟩ => ?_, fun hn => ?_⟩
  · have hpushers : (v.queue q).pushWaiters = [] :=
      hserved.queue.pushWaiters.trans ((hgranted.queues q).no_waiter hp)
    have hpoppers : (v.queue q).popWaiters = [] :=
      no_popWaiter_of_drainComplete (reexaminePop_stops (.inr ((hgranted.queues q).state.trans hs)))
        ((drainComplete_iff v q).2 ⟨hstate, hnone.2 ho, hpops, hv⟩)
    rw [testDrain_testStop_of_spent ⟨hnone.2 ho, hpops, .inr ⟨hstate, hv⟩⟩, arrived_eq_atStopped hpushers hpoppers]
  · refine testDrain_testStop_of_not_spent ?_
    rintro ⟨ho, hpops, hstop | ⟨-, hv⟩⟩
    · rw [hstate] at hstop
      cases hstop
    · exact hn ⟨hnone.1 ho, hpops, hv⟩

/-! ### The last read of a pop without an error (R62) -/

theorem answerOk_of_read {s : State} {r : Requester} {t : Tag} {x : Transaction} (hx : s.transaction r t = some x)
    (hdir : x.request.direction = .read) (hnone : x.answer = none) (words : List Word) :
    s.answerOk r t words = s.respondedTo r t .ok words := by
  have hdata : answerData x.request .ok words = words := by simp only [answerData, hdir]
  rw [State.answerOk, answer_sent hx hnone ((beatsIn_iff x).2 (.inl hdir)), hdata]
  rfl

/-- The bridge when the pop between `before` and `after` has its words, and its entry has gone (R62, R65). -/
def popAnswered (s : State) (q : QueueId) (e : PopEntry) (before after : List PopEntry) (words : List Word) : State :=
  (s.setQueue q (withoutPop (s.queue q) before after)).respondedTo e.requester e.tag .ok words

theorem popAnswered_queue (s : State) (q : QueueId) (e : PopEntry) (before after : List PopEntry) (words : List Word) :
    (popAnswered s q e before after words).queue q = withoutPop (s.queue q) before after := setQueue_queue_same s q _

/-- The last read of a pop without an error: the consumer has its words, the entry goes, and the consequences of R66 follow. -/
theorem afterRead_last {s : State} {q : QueueId} {e e' : PopEntry} {before after : List PopEntry} {words : List Word}
    {x : Transaction} (h : (s.queue q).popEntries = before ++ e :: after)
    (hd : ∀ k, k ∈ before ∨ k ∈ after → k.start ≠ e.start) (hstart : e'.start = e.start)
    (hreads : e'.readsOutstanding = 0) (hok : e'.errorSeen = false) (hwords : e'.returned = words.map some)
    (hx : s.transaction e'.requester e'.tag = some x) (hdir : x.request.direction = .read) (hnone : x.answer = none) :
    s.afterRead q e' =
      ((removalReexamined s (popAnswered s q e' before after words) q).testDrain q).testStop q := by
  have hreturned : e'.returned.filterMap id = words := by rw [hwords]; simp
  let stored := s.setQueue q { s.queue q with popEntries := before ++ e' :: after }
  have hstored : s.setPopEntry q e' = stored := setPopEntry_eq hd h hstart
  have hqueue : (stored.respondedTo e'.requester e'.tag .ok words).queue q =
      { s.queue q with popEntries := before ++ e' :: after } := setQueue_queue_same s q _
  have hleft : (stored.respondedTo e'.requester e'.tag .ok words).setQueue q
      (((stored.respondedTo e'.requester e'.tag .ok words).queue q).removePop e') =
        popAnswered s q e' before after words := by
    rw [hqueue, removePop_eq_withoutPop (x := { s.queue q with popEntries := before ++ e' :: after })
      (fun k hk => hstart ▸ hd k hk) rfl]
    exact congrArg (fun u => State.respondedTo u e'.requester e'.tag .ok words) (setQueue_setQueue s q _ _)
  rw [afterRead_answers hreads, hstored, State.answerPop, if_neg (by rw [hok]; decide), hreturned,
    answerOk_of_read (s := stored) hx hdir hnone, removePop_eq, hleft, removalReexamined, removalReexamined, hqueue]

end Sys2Proof.Machine.Laws

namespace Sys2Proof.Machine.Laws

open Sys2Proof Sys2Proof.Machine

/-! ### The two reads of a pop, and the last one (R60 to R66) -/

theorem fill_eq {e : PopEntry} {m : Nat} (h : e.readsOutstanding = m + 1) (first : Nat) (data : List Word) :
    e.fill first data = { e with
      returned := e.returned.take first ++ data.map some ++ e.returned.drop (first + data.length)
      readsOutstanding := m } := by
  rw [PopEntry.fill, h, Nat.add_sub_cancel]

theorem fail_eq {e : PopEntry} {m : Nat} (h : e.readsOutstanding = m + 1) :
    e.fail = { e with errorSeen := true, readsOutstanding := m } := by
  rw [PopEntry.fail, h, Nat.add_sub_cancel]

/-- One of two reads completes OK. -/
theorem popReadOk_of_two {s : State} {n : Nat} {q : QueueId} {p : Position} {first : Nat} {a : Addr} {data : List Word}
    {e : PopEntry} (ha : s.awaits n ⟨.popRead q p first, .read, a, data.length, []⟩)
    (he : (s.queue q).popEntryAt p = some e) (htwo : e.readsOutstanding = 2) (hr : s.link.softReset = false) :
    exec (.popReadOk n data) s = .next ((s.clearOutputs.numberFreed n).setQueue q { s.queue q with
      popEntries := (s.queue q).popEntries.map (fun y => if y.start = p then
        { e with
          returned := e.returned.take first ++ data.map some ++ e.returned.drop (first + data.length)
          readsOutstanding := 1 } else y) }) := by
  have hstart := popEntryAt_start he
  rw [exec_popReadOk_full ha he, fill_eq htwo, afterRead_waits (s := s.clearOutputs.numberFreed n) Nat.one_ne_zero rfl hr,
    ← hstart]
  rfl

/-- One of two reads completes ERROR. -/
theorem popReadError_of_two {s : State} {n : Nat} {r : MemRequest} {q : QueueId} {p : Position} {first : Nat} {e : PopEntry}
    (ha : s.awaits n r) (ho : r.owner = .popRead q p first) (he : (s.queue q).popEntryAt p = some e)
    (htwo : e.readsOutstanding = 2) (hr : s.link.softReset = false) :
    exec (.popReadError n) s = .next ((s.clearOutputs.numberFreed n).setQueue q { s.queue q with
      popEntries := (s.queue q).popEntries.map (fun y =>
        if y.start = p then { e with errorSeen := true, readsOutstanding := 1 } else y) }) := by
  have hstart := popEntryAt_start he
  rw [exec_popReadError ha ho he, fail_eq htwo, afterRead_waits (s := s.clearOutputs.numberFreed n) Nat.one_ne_zero rfl hr,
    ← hstart]
  rfl

/-- The two tests let no request in, where nothing is stalled. -/
theorem finish_testDrain_testStop {s : State} (q : QueueId) (ha : s.sys.arrivals = []) (hr : s.link.softReset = false) :
    ((s.testDrain q).testStop q).finish = (s.testDrain q).testStop q := by
  obtain ⟨hsys, hlink, -⟩ := testDrain_frame s q
  obtain ⟨hsys', hlink', -⟩ := testStop_frame (s.testDrain q) q
  exact finish_of_no_arrival _ (by rw [hsys', hsys]; exact ha) (by rw [hlink', hlink]; exact hr)

/-- The last read completes OK, and the pop has no error: its consumer is answered, its entry goes, and the consequences of R66
and the tests of R93 and R96 follow. -/
theorem popReadOk_last {s : State} {n : Nat} {q : QueueId} {first : Nat} {a : Addr} {data : List Word} {e : PopEntry}
    {x : Transaction} {before after : List PopEntry} {words : List Word}
    (ha : s.awaits n ⟨.popRead q e.start first, .read, a, data.length, []⟩)
    (h : (s.queue q).popEntries = before ++ e :: after) (hd : ∀ k, k ∈ before ∨ k ∈ after → k.start ≠ e.start)
    (hone : e.readsOutstanding = 1) (hok : e.errorSeen = false)
    (hwords : e.returned.take first ++ data.map some ++ e.returned.drop (first + data.length) = words.map some)
    (hx : s.transaction e.requester e.tag = some x) (hdir : x.request.direction = .read) (hnone : x.answer = none)
    (harr : s.sys.arrivals = []) (hr : s.link.softReset = false) :
    exec (.popReadOk n data) s = .next (((removalReexamined s (popAnswered (s.clearOutputs.numberFreed n) q e before after
      words) q).testDrain q).testStop q) := by
  let e' : PopEntry := { e with returned := words.map some, readsOutstanding := 0 }
  have hlast := afterRead_last (s := s.clearOutputs.numberFreed n) (e' := e') h hd rfl rfl hok rfl hx hdir hnone
  have honly := grantsOnly_removalReexamined (s.clearOutputs.numberFreed n)
    (popAnswered (s.clearOutputs.numberFreed n) q e' before after words) q
  rw [exec_popReadOk_full ha (popEntryAt_eq h hd), fill_eq hone, hwords, hlast]
  exact congrArg _ (finish_testDrain_testStop q (honly.arrivals.trans harr) (by rw [honly.link]; exact hr))

theorem popAnswered_setQueue (s : State) (q : QueueId) (e : PopEntry) (before after : List PopEntry) (words : List Word)
    (x : Queue) : (popAnswered s q e before after words).setQueue q x =
      (s.setQueue q x).respondedTo e.requester e.tag .ok words :=
  congrArg (fun u => State.respondedTo u e.requester e.tag .ok words) (setQueue_setQueue s q _ x)

/-- When the queue meets a completion condition with the pop gone (R89). -/
theorem spent_popAnswered (s : State) (n : Nat) (q : QueueId) (e : PopEntry) (before after : List PopEntry)
    (words : List Word) : spent (popAnswered (s.clearOutputs.numberFreed n) q e before after words) q ↔
      before ++ after = [] ∧ s.entriesOf q = [] ∧
        ((s.queue q).state = .stopping ∨ ((s.queue q).state = .draining ∧ (s.queue q).visible = 0)) := by
  have hnone : (popAnswered (s.clearOutputs.numberFreed n) q e before after words).ownsNone q = true ↔ s.entriesOf q = [] :=
    ownsNone_iff _ q
  rw [spent, hnone, popAnswered_queue]
  exact and_left_comm

theorem withoutPop_arrived {x : Queue} {before after : List PopEntry} (h : before ++ after = []) (hp : x.pushWaiters = [])
    (hv : x.popWaiters = []) : (withoutPop x before after).arrived = { x.atStopped with popEntries := [] } := by
  rw [withoutPop, h, Queue.arrived, Queue.atStopped, hp, hv]

/-- Settles O45. -/
theorem popReadsFillThePopAndAnswerIt : Obligations.PopReadsFillThePopAndAnswerIt := by
  refine ⟨?_, ?_, ?_, ?_⟩
  · exact fun s n q p first a data e ha he htwo hr => popReadOk_of_two ha he htwo hr
  · exact fun s n r q p first e ha ho he htwo hr => popReadError_of_two ha ho he htwo hr
  · rintro s n q _ first a data e x before after words ha h rfl hd hone hok hwords hp hv hx hdir hnone harr hr ends
    have hexec := popReadOk_last ha h hd hone hok hwords hx hdir hnone harr hr
    have hqueue : _ = withoutPop (s.queue q) before after :=
      popAnswered_queue (s.clearOutputs.numberFreed n) q e before after words
    have hends : spent _ q ↔ ends := spent_popAnswered s n q e before after words
    rw [removalReexamined_of_idle (by rw [hqueue]; exact hp) (reexaminePop_of_no_waiter (by rw [hqueue]; exact hv))] at hexec
    refine ⟨fun hn => ?_, fun hyes => ?_⟩
    · rw [hexec, testDrain_testStop_of_not_spent (mt hends.1 hn)]
      rfl
    · rw [hexec, testDrain_testStop_of_spent (hends.2 hyes), hqueue, withoutPop_arrived hyes.1 hp hv]
      exact congrArg _ (popAnswered_setQueue (s.clearOutputs.numberFreed n) q e before after words _)
  · rintro s n q _ first a data e x before after words ha h rfl hd hone hok hwords hx hdir hnone harr hr release removed v
    have hexec := popReadOk_last ha h hd hone hok hwords hx hdir hnone harr hr
    have hqueue : _ = withoutPop (s.queue q) before after :=
      popAnswered_queue (s.clearOutputs.numberFreed n) q e before after words
    have hv : removalReexamined s (popAnswered (s.clearOutputs.numberFreed n) q e before after words) q = v := by
      rw [removalReexamined, hqueue]
      rfl
    refine ⟨fun hs => ?_, fun hs hp => ?_⟩
    · have hstate := removalReexamined_state s (popAnswered (s.clearOutputs.numberFreed n) q e before after words) q
      rw [hqueue] at hstate
      rw [hexec, testDrain_testStop_of_not_spent, hv]
      rintro ⟨-, -, hstop | ⟨hdrain, -⟩⟩
      · rw [hstate.trans hs] at hstop
        cases hstop
      · rw [hstate.trans hs] at hdrain
        cases hdrain
    · obtain ⟨hyes, hno⟩ := removalReexamined_draining s (by rw [hqueue]; exact hs) (by rw [hqueue]; exact hp)
      rw [hv] at hyes hno hexec
      exact ⟨fun hdrained => hexec.trans (congrArg _ (hyes hdrained)), fun hn => hexec.trans (congrArg _ (hno hn))⟩

end Sys2Proof.Machine.Laws

namespace Sys2Proof.Machine.Laws

open Sys2Proof Sys2Proof.Machine

/-! ### A pop with a failed read (R63) -/

/-- The pop entry e when its last read has completed and one of its reads has failed. -/
def failedPop (e : PopEntry) (returned : List (Option Word)) : PopEntry :=
  { e with errorSeen := true, returned := returned, readsOutstanding := 0 }

/-- The bridge when a read completion has come back under the number n, and has used free values up to `uses`. -/
def readDone (s : State) (n uses : Nat) : State := { s.clearOutputs.numberFreed n with freeUses := uses }

theorem noteMissing_readDone (s : State) (n words : Nat) (data : List Word) :
    ∃ uses, (s.clearOutputs.numberFreed n).noteMissing words data = readDone s n uses := by
  unfold State.noteMissing
  split
  · exact ⟨s.freeUses + 1, rfl⟩
  · exact ⟨s.freeUses, rfl⟩

/-- The bridge when the consumer of the failed pop has its answer. -/
def popDeclined (s : State) (q : QueueId) (d : PopEntry) : State :=
  (s.setPopEntry q d).decline d.requester d.tag (d.ringReadLog q)

/-- The last read of a pop, where one has failed: the consumer is declined, the fault triggered, and the entry removed (R63,
R65). -/
theorem afterRead_failed (s : State) (q : QueueId) (e : PopEntry) (returned : List (Option Word)) :
    s.afterRead q (failedPop e returned) = ((popDeclined s q (failedPop e returned)).faultTrigger q .ringRead).removePop q
      (failedPop e returned) := by
  have hreads : (failedPop e returned).readsOutstanding = 0 := rfl
  have herror : (failedPop e returned).errorSeen = true := rfl
  rw [afterRead_answers hreads, State.answerPop, if_pos herror, popDeclined]

/-- The last read of a pop fails, or completes OK where the other has failed (R61, R63). -/
theorem exec_lastRead_failed {s : State} {n : Nat} {r : MemRequest} {q : QueueId} {first : Nat} {e : PopEntry} {c : Instr}
    (ha : s.awaits n r) (ho : r.owner = .popRead q e.start first) (he : (s.queue q).popEntryAt e.start = some e)
    (hone : e.readsOutstanding = 1)
    (hc : c = .popReadError n ∨ (e.errorSeen = true ∧ ∃ data, c = .popReadOk n data)) : ∃ uses returned,
      exec c s = .next (((popDeclined (readDone s n uses) q (failedPop e returned)).faultTrigger q .ringRead).removePop q
        (failedPop e returned)).finish := by
  obtain rfl | ⟨herror, data, rfl⟩ := hc
  · have hdone : s.clearOutputs.numberFreed n = readDone s n s.freeUses := rfl
    have hfail : e.fail = failedPop e e.returned := fail_eq hone
    refine ⟨s.freeUses, e.returned, ?_⟩
    rw [exec_popReadError ha ho he, hdone, hfail, afterRead_failed]
  · obtain ⟨uses, hdone⟩ := noteMissing_readDone s n r.words data
    obtain ⟨returned, hfill⟩ : ∃ returned, e.fill first (completionWords s.freeUses r.words data) = failedPop e returned :=
      ⟨_, by rw [fill_eq hone, failedPop, herror]⟩
    refine ⟨uses, returned, ?_⟩
    rw [exec_popReadOk ha ho he, hdone, hfill, afterRead_failed]

/-- What a failed pop has done before the fault is triggered: e stands between `before` and `after`, with its reads done. -/
structure PopDeclined (s : State) (q : QueueId) (e : PopEntry) (before after : List PopEntry) (returned : List (Option Word))
    (u : State) : Prop where
  queue        : u.queue q = { s.queue q with popEntries := before ++ failedPop e returned :: after }
  others       : ∀ k, k ≠ q → u.queue k = s.queue k
  reservations : u.reservations = s.reservations
  arrivals     : u.sys.arrivals = s.sys.arrivals
  softReset    : u.link.softReset = s.link.softReset
  log          : u.log = s.log.append (e.ringReadLog q)
  transactions : ∀ r t, ¬(r = e.requester ∧ t = e.tag) → u.transaction r t = s.transaction r t
  consumer     : ∀ x, s.transaction e.requester e.tag = some x → x.answer = none → Declined x .ringRead u

theorem popDeclined_spec {s : State} {q : QueueId} {e : PopEntry} {before after : List PopEntry}
    (h : (s.queue q).popEntries = before ++ e :: after) (hd : ∀ k, k ∈ before ∨ k ∈ after → k.start ≠ e.start)
    (n uses : Nat) (returned : List (Option Word)) : PopDeclined s q e before after returned
      (popDeclined (readDone s n uses) q (failedPop e returned)) := by
  let stored := (readDone s n uses).setQueue q { s.queue q with popEntries := before ++ failedPop e returned :: after }
  have hstored : (readDone s n uses).setPopEntry q (failedPop e returned) = stored :=
    setPopEntry_eq (s := readDone s n uses) hd h rfl
  have hframe := answersOnly_decline stored e.requester e.tag (e.ringReadLog q)
  have hdeclined : popDeclined (readDone s n uses) q (failedPop e returned) =
      stored.decline e.requester e.tag (e.ringReadLog q) := by
    rw [popDeclined, hstored]
    rfl
  rw [hdeclined]
  refine ⟨(hframe.queue q).trans (setQueue_queue_same (readDone s n uses) q _), fun k hk => (hframe.queue k).trans ?_,
    hframe.reservations, hframe.arrivals, by rw [hframe.link]; rfl, decline_log _ _ _ _, fun r t hne => ?_, fun x hx hnone => ?_⟩
  · exact setQueue_queue_other (readDone s n uses) hk _
  · exact transaction_answer_other (stored.appendLog (e.ringReadLog q)) hne _ _ _
  · obtain ⟨hr, ht⟩ := transaction_named hx
    rw [← hr, ← ht] at hx ⊢
    exact StandsOrDeclined.declined (u := stored) hnone (.inl hx) (.inl rfl)

/-- A read that is declined has its response of all-ones data sent (R138, R139). -/
theorem mem_sent_of_read {x : Transaction} {reason : Reason} {u : State} (h : Declined x reason u)
    (hdir : x.request.direction = .read) : (⟨x.request.requester, x.request.tag, .decline,
      List.replicate x.request.beats.val (BitVec.allOnes 64)⟩ : Response) ∈ u.sys.sent := by
  have hdata : answerData x.request .decline [] = List.replicate x.request.beats.val (BitVec.allOnes 64) := by
    simp only [answerData, hdir]
    rfl
  obtain ⟨-, hmem⟩ | ⟨hb, -⟩ := h
  · exact hdata ▸ hmem
  · rw [(beatsIn_iff x).2 (.inl hdir)] at hb
    cases hb

/-- A removal where no push waits and no pop could be granted, with nothing stalled: the entry goes, and the completion tests
follow. -/
theorem finish_removePop_of_idle {s : State} {q : QueueId} {d : PopEntry} {before after : List PopEntry}
    (h : (s.queue q).popEntries = before ++ d :: after) (hd : ∀ k, k ∈ before ∨ k ∈ after → k.start ≠ d.start)
    (hp : (s.queue q).pushWaiters = [])
    (hv : (s.queue q).popWaiters = [] ∨ ¬((s.queue q).state = .running ∨ (s.queue q).state = .draining))
    (ha : s.sys.arrivals = []) (hr : s.link.softReset = false) :
    (s.removePop q d).finish = ((s.setQueue q (withoutPop (s.queue q) before after)).testDrain q).testStop q := by
  have hqueue : (s.setQueue q (withoutPop (s.queue q) before after)).queue q = withoutPop (s.queue q) before after :=
    setQueue_queue_same s q _
  have hpops : (s.setQueue q (withoutPop (s.queue q) before after)).reexaminePop q =
      s.setQueue q (withoutPop (s.queue q) before after) := by
    obtain hv | hv := hv
    · exact reexaminePop_of_no_waiter (by rw [hqueue]; exact hv)
    · exact reexaminePop_inactive (by rw [hqueue]; exact hv)
  rw [removePop_eq, removePop_eq_withoutPop hd h, removalReexamined_of_idle (by rw [hqueue]; exact hp) hpops,
    finish_testDrain_testStop (s := s.setQueue q (withoutPop (s.queue q) before after)) q ha hr]

/-- A FAULTED queue meets no completion condition (R89). -/
theorem not_spent_of_faulted {s : State} {q : QueueId} (h : (s.queue q).state = .faulted) : ¬spent s q := by
  rintro ⟨-, -, hs | ⟨hs, -⟩⟩ <;> rw [h] at hs <;> cases hs

theorem faultTrigger_of_stopping {s : State} {q : QueueId} (h : (s.queue q).state = .stopping) (reason : FaultReason) :
    s.faultTrigger q reason = s := by
  unfold State.faultTrigger
  rw [h]

section Failed

variable {s u : State} {q : QueueId} {e : PopEntry} {before after : List PopEntry} {returned : List (Option Word)}
  (hu : PopDeclined s q e before after returned u) (hd : ∀ k, k ∈ before ∨ k ∈ after → k.start ≠ e.start)
  (ha : s.sys.arrivals = []) (hr : s.link.softReset = false)

include hu

/-- What the removal of the entry leaves as it was. -/
theorem PopDeclined.setQueue_frame (x : Queue) : (∀ k, k ≠ q → (u.setQueue q x).queue k = s.queue k) ∧
    (u.setQueue q x).reservations = s.reservations ∧ (u.setQueue q x).log = s.log.append (e.ringReadLog q) :=
  ⟨fun k hk => (setQueue_queue_other u hk x).trans (hu.others k hk), hu.reservations, hu.log⟩

/-- A waiter with a name of its own stands until the entry into FAULTED declines it. -/
theorem PopDeclined.waiter_declined {w : Waiter} (hw : w ∈ (s.queue q).pushWaiters ∨ w ∈ (s.queue q).popWaiters)
    (hne : ¬(w.requester = e.requester ∧ w.tag = e.tag)) {x : Transaction}
    (hx : s.transaction w.requester w.tag = some x) (hnone : x.answer = none) :
    Declined x .faulted (u.enterFaulted q .ringRead) := by
  obtain ⟨hreq, htag⟩ := transaction_named hx
  have hstands : StandsOrDeclined x .faulted u := .inl (by rw [hreq, htag, hu.transactions _ _ hne]; exact hx)
  exact hstands.enterFaulted_declined hnone hreq htag (by rw [hu.queue]; exact hw) .ringRead

include hd ha hr

/-- In RUNNING or DRAINING the queue faults before the entry goes (R63, R98; log entry 10). -/
theorem PopDeclined.finish_active (hs : (s.queue q).state = .running ∨ (s.queue q).state = .draining) :
    ((u.faultTrigger q .ringRead).removePop q (failedPop e returned)).finish =
      (u.enterFaulted q .ringRead).setQueue q { withoutPop (s.queue q) before after with
        state := .faulted
        faultReason := some .ringRead
        resume := if (s.queue q).state = .draining then .draining else .running
        pushWaiters := []
        popWaiters := [] } := by
  have hsame := enterFaulted_queue_same u q .ringRead
  rw [hu.queue, toResume_eq hs] at hsame
  have hfault := answersOnly_enterFaulted u q .ringRead
  have hend := finish_removePop_of_idle (s := u.enterFaulted q .ringRead) (d := failedPop e returned) (by rw [hsame]) hd
    (by rw [hsame]) (.inl (by rw [hsame])) (hfault.arrivals.trans (hu.arrivals.trans ha))
    (by rw [hfault.link]; exact hu.softReset.trans hr)
  rw [faultTrigger_of_active (by rw [hu.queue]; exact hs), hend,
    testDrain_testStop_of_not_spent (not_spent_of_faulted (by rw [setQueue_queue_same, hsame]; rfl)), hsame]
  rfl

/-- A FAULTED queue stays so, and loses the entry. -/
theorem PopDeclined.finish_faulted (hs : (s.queue q).state = .faulted) (hp : (s.queue q).pushWaiters = []) :
    ((u.faultTrigger q .ringRead).removePop q (failedPop e returned)).finish =
      u.setQueue q (withoutPop (s.queue q) before after) := by
  have hstate : (u.queue q).state = .faulted := by rw [hu.queue]; exact hs
  have hend := finish_removePop_of_idle (s := u) (d := failedPop e returned) (by rw [hu.queue]) hd
    (by rw [hu.queue]; exact hp) (.inr (by rw [hstate]; decide)) (hu.arrivals.trans ha) (hu.softReset.trans hr)
  rw [faultTrigger_of_faulted hstate, hend,
    testDrain_testStop_of_not_spent (not_spent_of_faulted (by rw [setQueue_queue_same]; exact hstate)), hu.queue]
  rfl

/-- A STOPPING queue does not fault; it loses the entry, and arrives at STOPPED when nothing of it is left (R96, R100). -/
theorem PopDeclined.finish_stopping (hs : (s.queue q).state = .stopping) (hp : (s.queue q).pushWaiters = [])
    (hv : (s.queue q).popWaiters = []) :
    (¬(before ++ after = [] ∧ s.entriesOf q = []) →
      ((u.faultTrigger q .ringRead).removePop q (failedPop e returned)).finish =
        u.setQueue q (withoutPop (s.queue q) before after)) ∧
    (before ++ after = [] ∧ s.entriesOf q = [] →
      ((u.faultTrigger q .ringRead).removePop q (failedPop e returned)).finish =
        u.setQueue q { (s.queue q).atStopped with popEntries := [] }) := by
  have hend := finish_removePop_of_idle (s := u) (d := failedPop e returned) (by rw [hu.queue]) hd
    (by rw [hu.queue]; exact hp) (.inl (by rw [hu.queue]; exact hv)) (hu.arrivals.trans ha) (hu.softReset.trans hr)
  have hleft : withoutPop (u.queue q) before after = withoutPop (s.queue q) before after := by
    rw [hu.queue]
    rfl
  have hnone : (u.setQueue q (withoutPop (s.queue q) before after)).ownsNone q = true ↔ s.entriesOf q = [] := by
    rw [ownsNone_iff, State.entriesOf, setQueue_reservations, hu.reservations, State.entriesOf]
  rw [faultTrigger_of_stopping (by rw [hu.queue]; exact hs), hend, hleft]
  refine ⟨fun hn => testDrain_testStop_of_not_spent ?_, fun ⟨hlast, ho⟩ => ?_⟩
  · rintro ⟨ho, hpops, -⟩
    rw [setQueue_queue_same] at hpops
    exact hn ⟨hpops, hnone.1 ho⟩
  · have hspent : spent (u.setQueue q (withoutPop (s.queue q) before after)) q := by
      refine ⟨hnone.2 ho, ?_, .inl ?_⟩
      · rw [setQueue_queue_same]
        exact hlast
      · rw [setQueue_queue_same]
        exact hs
    rw [testDrain_testStop_of_spent hspent, setQueue_queue_same, withoutPop_arrived hlast hp hv, setQueue_setQueue]

end Failed

/-- Settles O46. -/
theorem failedPopFaultsTheQueue : Obligations.FailedPopFaultsTheQueue := by
  rintro s n r q _ first e before after c ha ho h rfl hd hone harr hreset hc release lost answered
  obtain ⟨uses, returned, hexec⟩ := exec_lastRead_failed ha ho (popEntryAt_eq h hd) hone hc
  have hu := popDeclined_spec h hd n uses returned
  generalize popDeclined (readDone s n uses) q (failedPop e returned) = u at hexec hu
  have hanswered : ∀ t : State,
      (∀ x, s.transaction e.requester e.tag = some x → x.answer = none → Declined x .ringRead t) → answered t := fun t ht x hx hdir hnone => by
    obtain ⟨hreq, htag⟩ := transaction_named hx
    have hsent := mem_sent_of_read (ht x hx hnone) hdir
    rwa [hreq, htag] at hsent
  have hkept : ∀ x, answered (u.setQueue q x) := fun x =>
    hanswered _ (fun y hy hnone => (hu.consumer y hy hnone).of_sys (setQueue_sys ..))
  refine ⟨fun hactive => ?_, fun hfaulted hp => ?_, fun hstopping hp hv => ?_⟩
  · rw [hu.finish_active hd harr hreset hactive] at hexec
    refine ⟨_, hexec, setQueue_queue_same _ q _, fun k hk => ?_,
      (enterFaulted_reservations u q .ringRead).trans hu.reservations, ?_,
      hanswered _ (fun x hx hnone => ((hu.consumer x hx hnone).enterFaulted q .ringRead).of_sys (setQueue_sys ..)),
      fun w hw hne => answersHeld_of_declined
        (fun x hx hnone => (hu.waiter_declined hw hne hx hnone).of_sys (setQueue_sys ..))⟩
    · rw [setQueue_queue_other _ hk, enterFaulted_queue_other _ _ hk, hu.others k hk]
    · rw [setQueue_log, enterFaulted_log, hu.queue, hu.log]
      rfl
  · rw [hu.finish_faulted hd harr hreset hfaulted hp] at hexec
    obtain ⟨hothers, -, hlog⟩ := hu.setQueue_frame (withoutPop (s.queue q) before after)
    exact ⟨_, hexec, setQueue_queue_same u q _, hothers, hlog, hkept _⟩
  · obtain ⟨hmore, hlast⟩ := hu.finish_stopping hd harr hreset hstopping hp hv
    by_cases hends : before ++ after = [] ∧ s.entriesOf q = []
    · rw [hlast hends] at hexec
      obtain ⟨hothers, hres, hlog⟩ := hu.setQueue_frame { (s.queue q).atStopped with popEntries := [] }
      exact ⟨_, hexec, fun hn => absurd hends hn, fun _ _ => setQueue_queue_same u q _, hothers, hres, hlog, hkept _⟩
    · rw [hmore hends] at hexec
      obtain ⟨hothers, hres, hlog⟩ := hu.setQueue_frame (withoutPop (s.queue q) before after)
      exact ⟨_, hexec, fun _ => setQueue_queue_same u q _, fun h1 h2 => absurd ⟨h1, h2⟩ hends, hothers, hres, hlog,
        hkept _⟩

end Sys2Proof.Machine.Laws

namespace Sys2Proof.Machine.Laws

open Sys2Proof Sys2Proof.Machine

/-! ### A request answered in the event that takes it (R134, R138, R139) -/

/-- A memory access is never decoded as a push. -/
theorem guardAccess_ne_push (s : State) (c : RequesterClass) (m : Addr) (L : BurstLength) (q : QueueId) :
    s.guardAccess c m L ≠ .push q := by
  unfold State.guardAccess
  split <;> exact Decoded.noConfusion

/-- Only writes are decoded as pushes (R122). -/
theorem direction_of_decode_push {s : State} {r : Request} {q : QueueId} (h : s.decode r = .push q) :
    r.direction = .write := by
  unfold State.decode at h
  dsimp only at h
  split at h
  · exact absurd h (guardAccess_ne_push _ _ _ _ _)
  · split at h
    · exact absurd h (guardAccess_ne_push _ _ _ _ _)
    · exact absurd h (guardAccess_ne_push _ _ _ _ _)
    next hwrite => exact hwrite
    · cases h
    · cases h
    · cases h
    · cases h

/-- A TAKE_REQUEST with nothing stalled takes its request. -/
theorem exec_takeRequest {s : State} {r : Request} (h : s.takes r) :
    exec (.takeRequest r) s = .next (s.clearOutputs.take r) := by
  have hexec : exec (.takeRequest r) s = .next (s.clearOutputs.presentRequest r) :=
    congrArg _ (presentAndArbitrate_of_not_due (s := s.clearOutputs) r h.2.1)
  rw [hexec, presentRequest_of_takes (s := s.clearOutputs) h.1 (canTake_of_takes h)]

/-- A push is taken, tracked with its beats waiting, and decided (R119, R134, R137). -/
theorem exec_takeRequest_push {s : State} {r : Request} {q : QueueId} (h : s.takes r) (hw : wellPlaced r)
    (hd : s.decode r = .push q) : exec (.takeRequest r) s =
      .next ((s.clearOutputs.tracked r (.push q) (some .waiting)).decidePush q r.requester r.tag r.beats) := by
  have hmode : initialBeatMode r (.push q) = some .waiting := by
    simp only [initialBeatMode, direction_of_decode_push hd]
  have hout : s.clearOutputs.outcome r = .push q := (outcome_of_wellPlaced s.clearOutputs hw).trans hd
  rw [exec_takeRequest h, State.take, hout, newTransaction, hmode]
  rfl

/-- A pop is taken, tracked and decided (R119, R134). -/
theorem exec_takeRequest_pop {s : State} {r : Request} {q : QueueId} (h : s.takes r) (hw : wellPlaced r)
    (hd : s.decode r = .pop q) : exec (.takeRequest r) s =
      .next ((s.clearOutputs.tracked r (.pop q) none).decidePop q r.requester r.tag r.beats) := by
  rw [exec_takeRequest h, take_pop (s := s.clearOutputs) hw hd]

/-- No tracker entry has the name of a request that can be taken (R135). -/
theorem not_named_of_canTake {s : State} {r : Request} (hc : s.canTake r = true) :
    ∀ x ∈ s.sys.tracker, x.named r.requester r.tag = false := by
  intro x hx
  by_contra hn
  obtain ⟨hr, ht⟩ := (named_iff x _ _).1 (by simpa using hn)
  exact ((canTake_iff s r).1 hc).2.2 (List.mem_map.2 ⟨x, hx, Prod.ext hr ht⟩)

/-- The transaction that a taking makes is found under its name. -/
theorem transaction_tracked_same {s : State} {r : Request} (hc : s.canTake r = true) (d : Decoded) (m : Option BeatMode) :
    (s.tracked r d m).transaction r.requester r.tag = some ⟨r, d, m, 0, [], none⟩ := by
  have hnone : s.sys.tracker.find? (fun x => x.named r.requester r.tag) = none := by
    simpa using not_named_of_canTake hc
  have hnew : (⟨r, d, m, 0, [], none⟩ : Transaction).named r.requester r.tag = true := (named_iff _ _ _).2 ⟨rfl, rfl⟩
  simp [State.transaction, State.tracked, List.find?_append, hnone, hnew]

/-- A taking hides no transaction. -/
theorem transaction_tracked_of_some {s : State} {r' : Requester} {t' : Tag} {x : Transaction}
    (h : s.transaction r' t' = some x) (r : Request) (d : Decoded) (m : Option BeatMode) :
    (s.tracked r d m).transaction r' t' = some x := by
  rw [State.transaction] at h
  rw [State.transaction, State.tracked, withSys_sys, List.find?_append, h, Option.some_or]

/-- A read that is not answered OK has all-ones data (R139). -/
theorem answerData_read {r : Request} (h : r.direction = .read) {status : Status} (hs : status ≠ .ok) (data : List Word) :
    answerData r status data = List.replicate r.beats.val (BitVec.allOnes 64) := by
  cases status with
  | ok => exact absurd rfl hs
  | retry => simp only [answerData, h]; rfl
  | decline => simp only [answerData, h]; rfl

theorem answerData_write {r : Request} (h : r.direction = .write) (status : Status) (data : List Word) :
    answerData r status data = [] := by simp only [answerData, h]

theorem beatsIn_of_missing {x : Transaction} (hdir : x.request.direction = .write)
    (hmore : x.received < x.request.beats.val) : x.beatsIn = false := by
  rw [← Bool.not_eq_true, beatsIn_iff, hdir]
  rintro (h | h)
  · cases h
  · exact Nat.ne_of_lt hmore h

/-- An answer other than OK, given in the taking event, turns the request away: a read's response is sent, and a write, none of
whose beats is in, keeps it (R137 to R139). -/
theorem answer_tracked {s : State} {r : Request} (hc : s.canTake r = true) (d : Decoded) (m : Option BeatMode)
    {status : Status} (hs : status ≠ .ok) (reason : Reason) :
    (s.tracked r d m).answer r.requester r.tag status (some reason) [] = s.turnedAway r d status reason := by
  have hfind := transaction_tracked_same hc d m
  have hnew : (⟨r, d, m, 0, [], none⟩ : Transaction).named r.requester r.tag = true := (named_iff _ _ _).2 ⟨rfl, rfl⟩
  cases hdir : r.direction with
  | read =>
    have hrest : (s.sys.tracker ++ [(⟨r, d, m, 0, [], none⟩ : Transaction)]).filter
        (fun y => !y.named r.requester r.tag) = s.sys.tracker := by
      rw [List.filter_append, List.filter_cons_of_neg (by rw [hnew]; decide), List.filter_nil, List.append_nil]
      exact List.filter_eq_self.2 (fun x hx => by rw [not_named_of_canTake hc x hx]; rfl)
    rw [answer_sent hfind rfl ((beatsIn_iff _).2 (.inl hdir)), answerData_read hdir hs, State.tracked, withSys_sys, hrest,
      State.turnedAway, hdir]
    rfl
  | write =>
    have hmap (y : Transaction) :
        s.sys.tracker.map (fun x => if x.named r.requester r.tag then y else x) = s.sys.tracker :=
      (List.map_congr_left (fun x hx => by rw [not_named_of_canTake hc x hx]; rfl)).trans (List.map_id _)
    rw [answer_kept hfind rfl (beatsIn_of_missing hdir r.beats.property.1), answerData_write hdir, State.setTransaction,
      State.tracked, withSys_sys, List.map_append, hmap, List.map_singleton, if_pos hnew, State.turnedAway, hdir]
    rfl

theorem turnedAway_appendLog (s : State) (r : Request) (d : Decoded) (status : Status) (reason : Reason) (e : LogEntry) :
    (s.appendLog e).turnedAway r d status reason = (s.turnedAway r d status reason).appendLog e := by
  unfold State.turnedAway
  cases r.direction <;> rfl

theorem turnedAway_queue (s : State) (r : Request) (d : Decoded) (status : Status) (reason : Reason) (q : QueueId) :
    (s.turnedAway r d status reason).queue q = s.queue q := by
  unfold State.turnedAway
  cases r.direction <;> rfl

theorem declineQueue_tracked {s : State} {r : Request} (hc : s.canTake r = true) (d : Decoded) (m : Option BeatMode)
    (q : QueueId) (reason : Reason) : (s.tracked r d m).declineQueue q r.requester r.tag reason =
      (s.turnedAway r d .decline reason).appendLog (queueLogEntry reason r.requester r.tag q) := by
  have h := answer_tracked (s := s.appendLog (queueLogEntry reason r.requester r.tag q)) hc d m (status := .decline)
    (by decide) reason
  rw [turnedAway_appendLog] at h
  exact h

theorem retry_tracked {s : State} {r : Request} (hc : s.canTake r = true) (d : Decoded) (m : Option BeatMode) (q : QueueId)
    (reason : Reason) : (s.tracked r d m).retry q r.requester r.tag reason =
      (s.turnedAway r d .retry reason).loggedRetry q r.requester r.tag reason := by
  have hqueue : (s.tracked r d m).queue q = s.queue q := rfl
  rw [State.retry, State.loggedRetry, turnedAway_queue, hqueue]
  split
  · have h := answer_tracked (s := s.appendLog (queueLogEntry reason r.requester r.tag q)) hc d m (status := .retry)
      (by decide) reason
    rw [turnedAway_appendLog] at h
    exact h
  · exact answer_tracked hc d m (by decide) reason

/-! ### Joins (R76, R77, R81) -/

theorem join_of_free {s : State} (h : s.slotsInUse < 32) (q : QueueId) (side : Side) (r : Requester) (t : Tag)
    (L : BurstLength) : s.join q side r t L = (s.setQueue q ((s.queue q).withWaiters side ((s.queue q).waiters side ++
      [⟨r, t, L, s.hold.nextJoin, s.hold.clock + (s.queue q).config.holdLimit⟩]))).withHold
        { s.hold with nextJoin := s.hold.nextJoin + 1 } := by
  rw [State.join, if_pos (show s.slotFree = true from decide_eq_true h)]
  rfl

theorem join_of_full {s : State} (h : 32 ≤ s.slotsInUse) (q : QueueId) (side : Side) (r : Requester) (t : Tag)
    (L : BurstLength) : s.join q side r t L = s.retry q r t .noSlot := by
  have hfree : ¬s.slotFree = true := fun hf => Nat.not_lt.2 h (of_decide_eq_true hf)
  rw [State.join, if_neg hfree]

/-! ### The cases of R71 -/

section DecidePush

variable {s : State} {q : QueueId} {r : Requester} {t : Tag} {L : BurstLength}

/-- Case 1 of R71. -/
theorem decidePush_state (h : (s.queue q).config.ringSize = 0 ∨ (s.queue q).state = .stopped ∨
    (s.queue q).state = .stopping ∨ (s.queue q).state = .draining) :
    s.decidePush q r t L = s.declineQueue q r t .state := by
  rw [State.decidePush]
  obtain h | h | h | h := h <;> simp only [h, if_true, ite_self]

/-- Case 2 of R71. -/
theorem decidePush_faulted (hsize : (s.queue q).config.ringSize ≠ 0) (h : (s.queue q).state = .faulted) :
    s.decidePush q r t L = s.declineQueue q r t .faulted := by
  simp only [State.decidePush, hsize, if_false, h]

variable (hsize : (s.queue q).config.ringSize ≠ 0) (hs : (s.queue q).state = .running)

include hsize hs

theorem decidePush_running : s.decidePush q r t L =
    if (s.queue q).pushWaiters ≠ [] then s.join q .push r t L
    else if (s.queue q).free < 1 + L.val then s.applyFullPolicy q r t L
    else if s.entryFree then s.grantPush q r t L
    else s.join q .push r t L := by
  simp only [State.decidePush, hsize, if_false, hs]
  rfl

/-- Case 4 of R71. -/
theorem decidePush_full (hp : (s.queue q).pushWaiters = []) (hf : (s.queue q).free < 1 + L.val) :
    s.decidePush q r t L = s.applyFullPolicy q r t L := by
  rw [decidePush_running hsize hs, if_neg (not_not.2 hp), if_pos hf]

/-- REFUSE for a push (R72). -/
theorem decidePush_refuse (hp : (s.queue q).pushWaiters = []) (hf : (s.queue q).free < 1 + L.val)
    (h : (s.queue q).config.fullPolicy = .refuse) : s.decidePush q r t L = s.retry q r t .full := by
  rw [decidePush_full hsize hs hp hf, State.applyFullPolicy, h]

/-- LATCH for a push (R72). -/
theorem decidePush_latch (hp : (s.queue q).pushWaiters = []) (hf : (s.queue q).free < 1 + L.val)
    (h : (s.queue q).config.fullPolicy = .latch) :
    s.decidePush q r t L = (s.declineQueue q r t .latched).faultTrigger q .fullLatch := by
  rw [decidePush_full hsize hs hp hf, State.applyFullPolicy, h]

/-- Cases 3 and 5 of R71, and HOLD (R72). -/
theorem decidePush_joins (h : (s.queue q).pushWaiters ≠ [] ∨
    ((s.queue q).free < 1 + L.val ∧ (s.queue q).config.fullPolicy = .hold) ∨
    (1 + L.val ≤ (s.queue q).free ∧ 48 ≤ s.reservations.length)) :
    s.decidePush q r t L = s.join q .push r t L := by
  by_cases hp : (s.queue q).pushWaiters = []
  · obtain h | ⟨hf, hhold⟩ | ⟨hf, hl⟩ := h
    · exact absurd hp h
    · rw [decidePush_full hsize hs hp hf, State.applyFullPolicy, hhold]
    · rw [decidePush_running hsize hs, if_neg (not_not.2 hp), if_neg (Nat.not_lt.2 hf),
        if_neg (mt (entryFree_iff s).1 (Nat.not_lt.2 hl))]
  · rw [decidePush_running hsize hs, if_pos hp]

end DecidePush

/-! ### The cases of R73 -/

section DecidePop

variable {s : State} {q : QueueId} {r : Requester} {t : Tag} {L : BurstLength}

/-- Case 1 of R73. -/
theorem decidePop_state (h : (s.queue q).config.ringSize = 0 ∨ (s.queue q).state = .stopped ∨
    (s.queue q).state = .stopping) : s.decidePop q r t L = s.declineQueue q r t .state := by
  rw [State.decidePop]
  obtain h | h | h := h <;> simp only [h, if_true, ite_self]

/-- Case 2 of R73. -/
theorem decidePop_faulted (hsize : (s.queue q).config.ringSize ≠ 0) (h : (s.queue q).state = .faulted) :
    s.decidePop q r t L = s.declineQueue q r t .faulted := by
  simp only [State.decidePop, hsize, if_false, h]

variable (hsize : (s.queue q).config.ringSize ≠ 0)
  (hs : (s.queue q).state = .running ∨ (s.queue q).state = .draining)

include hsize hs

theorem decidePop_active : s.decidePop q r t L =
    if (s.queue q).popWaiters ≠ [] then s.join q .pop r t L
    else if (s.queue q).visible < L.val then
      if s.drainedFor q L then s.declineQueue q r t .drained else s.applyEmptyPolicy q r t L
    else if (s.queue q).popEntries.length < 16 then s.grantPop q r t L
    else s.join q .pop r t L := by
  have hactive : s.decidePop q r t L = s.decidePopActive q r t L := by
    rw [State.decidePop]
    obtain h | h := hs <;> simp only [hsize, if_false, h]
  exact hactive

/-- DRAINED (R74). -/
theorem decidePop_drained (hp : (s.queue q).popWaiters = []) (hv : (s.queue q).visible < L.val)
    (hd : (s.queue q).state = .draining ∧ s.entriesOf q = []) :
    s.decidePop q r t L = s.declineQueue q r t .drained := by
  have hdrained : s.drainedFor q L = true := (drainedFor_iff s q L).2 ⟨hv, hd.1, (ownsNone_iff s q).2 hd.2⟩
  rw [decidePop_active hsize hs, if_neg (not_not.2 hp), if_pos hv, if_pos hdrained]

/-- Case 4 of R73, words being still to come: the empty policy (R74). -/
theorem decidePop_empty (hp : (s.queue q).popWaiters = []) (hv : (s.queue q).visible < L.val)
    (hd : ¬((s.queue q).state = .draining ∧ s.entriesOf q = [])) :
    s.decidePop q r t L = s.applyEmptyPolicy q r t L := by
  have hdrained : ¬s.drainedFor q L = true := by
    rw [drainedFor_iff, ownsNone_iff]
    exact fun h => hd h.2
  rw [decidePop_active hsize hs, if_neg (not_not.2 hp), if_pos hv, if_neg hdrained]

/-- REFUSE for a pop (R74). -/
theorem decidePop_refuse (hp : (s.queue q).popWaiters = []) (hv : (s.queue q).visible < L.val)
    (hd : ¬((s.queue q).state = .draining ∧ s.entriesOf q = [])) (h : (s.queue q).config.emptyPolicy = .refuse) :
    s.decidePop q r t L = s.retry q r t .empty := by
  rw [decidePop_empty hsize hs hp hv hd, State.applyEmptyPolicy, h]

/-- LATCH for a pop (R74). -/
theorem decidePop_latch (hp : (s.queue q).popWaiters = []) (hv : (s.queue q).visible < L.val)
    (hd : ¬((s.queue q).state = .draining ∧ s.entriesOf q = [])) (h : (s.queue q).config.emptyPolicy = .latch) :
    s.decidePop q r t L = (s.declineQueue q r t .latched).faultTrigger q .emptyLatch := by
  rw [decidePop_empty hsize hs hp hv hd, State.applyEmptyPolicy, h]

/-- Cases 3 and 5 of R73, and HOLD (R74). -/
theorem decidePop_joins (h : (s.queue q).popWaiters ≠ [] ∨
    ((s.queue q).visible < L.val ∧ (s.queue q).config.emptyPolicy = .hold ∧
      ¬((s.queue q).state = .draining ∧ s.entriesOf q = [])) ∨
    (L.val ≤ (s.queue q).visible ∧ 16 ≤ (s.queue q).popEntries.length)) :
    s.decidePop q r t L = s.join q .pop r t L := by
  by_cases hp : (s.queue q).popWaiters = []
  · obtain h | ⟨hv, hhold, hd⟩ | ⟨hv, hl⟩ := h
    · exact absurd hp h
    · rw [decidePop_empty hsize hs hp hv hd, State.applyEmptyPolicy, hhold]
    · rw [decidePop_active hsize hs, if_neg (not_not.2 hp), if_neg (Nat.not_lt.2 hv), if_neg (Nat.not_lt.2 hl)]
  · rw [decidePop_active hsize hs, if_pos hp]

end DecidePop

/-- Settles O29: the request is taken as it is presented, and cases 1 and 2 of R71 and R73, or DRAINED, decline it. -/
theorem queueStateRefusesPushesAndPops : Obligations.QueueStateRefusesPushesAndPops := by
  refine ⟨fun s r q ht hw hd => ?_, fun s r q ht hw hd => ?_⟩
  · have hc : s.clearOutputs.canTake r = true := canTake_of_takes ht
    have hexec := exec_takeRequest_push ht hw hd
    refine ⟨fun h => ?_, fun hsize h => ?_⟩
    · rw [hexec, decidePush_state (s := s.clearOutputs.tracked r _ _) h, declineQueue_tracked hc]
    · rw [hexec, decidePush_faulted (s := s.clearOutputs.tracked r _ _) hsize h, declineQueue_tracked hc]
  · have hc : s.clearOutputs.canTake r = true := canTake_of_takes ht
    have hexec := exec_takeRequest_pop ht hw hd
    refine ⟨fun h => ?_, fun hsize h => ?_, fun hsize hs hp hv hnone => ?_⟩
    · rw [hexec, decidePop_state (s := s.clearOutputs.tracked r _ _) h, declineQueue_tracked hc]
    · rw [hexec, decidePop_faulted (s := s.clearOutputs.tracked r _ _) hsize h, declineQueue_tracked hc]
    · rw [hexec, decidePop_drained (s := s.clearOutputs.tracked r _ _) hsize (.inr hs) hp hv ⟨hs, hnone⟩,
        declineQueue_tracked hc]

/-- Settles O30: the request is taken as it is presented, and joins where a hold slot is free. -/
theorem waitingRequestJoinsItsList : Obligations.WaitingRequestJoinsItsList := by
  refine ⟨fun s r q ht hw hd hsize hs h => ?_, fun s r q ht hw hd hsize hs h => ?_⟩
  · have hc : s.clearOutputs.canTake r = true := canTake_of_takes ht
    have hexec := exec_takeRequest_push ht hw hd
    rw [decidePush_joins (s := s.clearOutputs.tracked r _ _) hsize hs h] at hexec
    refine ⟨fun hslot => ?_, fun hslot => ?_⟩
    · rw [hexec, join_of_free (s := s.clearOutputs.tracked r _ _) hslot]
      rfl
    · rw [hexec, join_of_full (s := s.clearOutputs.tracked r _ _) hslot, retry_tracked hc]
  · have hc : s.clearOutputs.canTake r = true := canTake_of_takes ht
    have hexec := exec_takeRequest_pop ht hw hd
    rw [decidePop_joins (s := s.clearOutputs.tracked r _ _) hsize hs h] at hexec
    refine ⟨fun hslot => ?_, fun hslot => ?_⟩
    · rw [hexec, join_of_free (s := s.clearOutputs.tracked r _ _) hslot]
      rfl
    · rw [hexec, join_of_full (s := s.clearOutputs.tracked r _ _) hslot, retry_tracked hc]

end Sys2Proof.Machine.Laws

namespace Sys2Proof.Machine.Laws

open Sys2Proof Sys2Proof.Machine

/-! ### LATCH (R72, R74, R98) -/

/-- What LATCH has done for the request r, just taken, at queue q in RUNNING or DRAINING: r is declined, the queue is FAULTED,
and its waiters are released. -/
structure Latched (s : State) (r : Request) (d : Decoded) (m : Option BeatMode) (q : QueueId) (fault : FaultReason)
    (t : State) : Prop where
  queue        : t.queue q = { s.queue q with
    state := .faulted
    faultReason := some fault
    resume := if (s.queue q).state = .draining then .draining else .running
    pushWaiters := []
    popWaiters := [] }
  others       : ∀ p, p ≠ q → t.queue p = s.queue p
  reservations : t.reservations = s.reservations
  mem          : t.mem = s.mem
  log          : t.log = s.log.appendAll ([queueLogEntry .latched r.requester r.tag q,
      { reason := .queueFaulted, queue := some q, words := some (.fault fault) }] ++
    ((s.queue q).pushWaiters ++ (s.queue q).popWaiters).map (fun w => queueLogEntry .faulted w.requester w.tag q))
  declined     : Declined ⟨r, d, m, 0, [], none⟩ .latched t
  released     : ∀ w, w ∈ (s.queue q).pushWaiters ∨ w ∈ (s.queue q).popWaiters → s.answersHeld t w .decline .faulted
  attention    : t.attentionLine = true

/-- A request that is declined as it is taken leaves the transactions that stood before it. -/
theorem transaction_declineQueue_tracked {s : State} {r : Request} (hc : s.canTake r = true) (d : Decoded)
    (m : Option BeatMode) (q : QueueId) (reason : Reason) {r' : Requester} {t' : Tag} {x : Transaction}
    (hx : s.transaction r' t' = some x) :
    ((s.tracked r d m).declineQueue q r.requester r.tag reason).transaction r' t' = some x := by
  refine (transaction_answer_other ((s.tracked r d m).appendLog _) ?_ _ _ _).trans (transaction_tracked_of_some hx r d m)
  rintro ⟨rfl, rfl⟩
  have hnot := not_named_of_canTake hc x (transaction_mem hx)
  rw [(named_iff _ _ _).2 (transaction_named hx)] at hnot
  cases hnot

/-- The answer comes before the fault, and the fault's releases take back neither it nor its log entry (R98, R174). -/
theorem latched_of_active {s : State} {r : Request} (hc : s.canTake r = true) {q : QueueId}
    (hs : (s.queue q).state = .running ∨ (s.queue q).state = .draining) (d : Decoded) (m : Option BeatMode)
    (fault : FaultReason) : Latched s r d m q fault
      (((s.tracked r d m).declineQueue q r.requester r.tag .latched).faultTrigger q fault) := by
  have hframe := answersOnly_declineQueue (s.tracked r d m) q r.requester r.tag .latched
  have hqueue : ∀ k, ((s.tracked r d m).declineQueue q r.requester r.tag .latched).queue k = s.queue k := hframe.queue
  have hlog : ((s.tracked r d m).declineQueue q r.requester r.tag .latched).log =
      s.log.append (queueLogEntry .latched r.requester r.tag q) := decline_log _ _ _ _
  have hdeclined : Declined ⟨r, d, m, 0, [], none⟩ .latched
      ((s.tracked r d m).declineQueue q r.requester r.tag .latched) :=
    StandsOrDeclined.declined rfl (.inl (transaction_tracked_same hc d m)) (.inl rfl)
  have hothers := @transaction_declineQueue_tracked s r hc d m q .latched
  rw [faultTrigger_of_active (by rw [hqueue]; exact hs)]
  generalize (s.tracked r d m).declineQueue q r.requester r.tag .latched = u at *
  have hsame := enterFaulted_queue_same u q fault
  rw [hqueue, toResume_eq hs] at hsame
  have hfault := answersOnly_enterFaulted u q fault
  refine ⟨hsame, fun p hp => (enterFaulted_queue_other u fault hp).trans (hqueue p),
    hfault.reservations.trans hframe.reservations, hfault.mem.trans hframe.mem, ?_, hdeclined.enterFaulted q fault,
    fun w hw => answersHeld_of_declined fun x hx hnone => ?_, attentionLine_of_faulted (q := q) (by rw [hsame])⟩
  · rw [enterFaulted_log, hqueue, hlog]
    rfl
  · obtain ⟨hr, ht⟩ := transaction_named hx
    have hstands : StandsOrDeclined x .faulted u := .inl (by rw [hr, ht]; exact hothers hx)
    exact hstands.enterFaulted_declined hnone hr ht (by rw [hqueue]; exact hw) fault

/-- A write that is declined as it is taken keeps its answer, none of its beats being in (R137, R138). -/
theorem mem_tracker_of_declined {r : Request} {d : Decoded} {m : Option BeatMode} {reason : Reason} {t : State}
    (h : Declined ⟨r, d, m, 0, [], none⟩ reason t) (hdir : r.direction = .write) :
    ⟨r, d, some .dropping, 0, [], some ⟨.decline, some reason, []⟩⟩ ∈ t.sys.tracker := by
  obtain ⟨hb, -⟩ | ⟨-, hkept⟩ := h
  · have hnot := beatsIn_of_missing (x := ⟨r, d, m, 0, [], none⟩) hdir r.beats.property.1
    exact absurd (hb.symm.trans hnot) (by decide)
  · have hmem := transaction_mem hkept
    rw [answerData_write hdir] at hmem
    exact hmem

/-- Settles O31: the policy applies to the request just taken; LATCH is `latched_of_active`. -/
theorem fullAndEmptyQueuesMeetThePolicies : Obligations.FullAndEmptyQueuesMeetThePolicies := by
  refine ⟨fun s r q ht hw hd hsize hs hp hf hpolicy => ?_, fun s r q ht hw hd hsize hs hp hf hpolicy => ?_,
    fun s r q ht hw hd hsize hs hp hv => ?_⟩
  · have hc : s.clearOutputs.canTake r = true := canTake_of_takes ht
    rw [exec_takeRequest_push ht hw hd, decidePush_refuse (s := s.clearOutputs.tracked r _ _) hsize hs hp hf hpolicy,
      retry_tracked hc]
  · have hexec := exec_takeRequest_push ht hw hd
    rw [decidePush_latch (s := s.clearOutputs.tracked r _ _) hsize hs hp hf hpolicy] at hexec
    obtain ⟨hqueue, hothers, hres, hmem, hlog, hdeclined, hreleased, hattention⟩ :=
      latched_of_active (s := s.clearOutputs) (canTake_of_takes ht) (.inl hs) (.push q) (some .waiting) .fullLatch
    rw [clearOutputs_queue] at hqueue hlog
    simp only [hs, reduceCtorEq, if_false] at hqueue
    rw [hp, List.nil_append] at hlog
    refine ⟨_, hexec, hqueue.trans ?_, hothers, hres, hmem, hlog,
      mem_tracker_of_declined hdeclined (direction_of_decode_push hd), fun w hw => hreleased w (.inr hw), hattention⟩
    rw [← hp]
  · have hc : s.clearOutputs.canTake r = true := canTake_of_takes ht
    have hactive : (s.queue q).state = .running ∨ (s.queue q).state = .draining := hs.imp_right And.left
    have hmore : ¬((s.queue q).state = .draining ∧ s.entriesOf q = []) := by
      rintro ⟨hdraining, hnone⟩
      obtain hrunning | ⟨-, hne⟩ := hs
      · rw [hdraining] at hrunning
        cases hrunning
      · exact hne hnone
    have hexec := exec_takeRequest_pop ht hw hd
    refine ⟨fun hpolicy => ?_, fun hpolicy => ?_⟩
    · rw [hexec, decidePop_refuse (s := s.clearOutputs.tracked r _ _) hsize hactive hp hv hmore hpolicy, retry_tracked hc]
    · rw [decidePop_latch (s := s.clearOutputs.tracked r _ _) hsize hactive hp hv hmore hpolicy] at hexec
      obtain ⟨hqueue, hothers, hres, hmem, hlog, hdeclined, hreleased, hattention⟩ :=
        latched_of_active (s := s.clearOutputs) hc hactive (.pop q) none .emptyLatch
      rw [clearOutputs_queue] at hqueue hlog
      rw [hp, List.append_nil] at hlog
      refine ⟨_, hexec, hqueue.trans ?_, hothers, hres, hmem, hlog, mem_sent_of_read hdeclined (direction_of_decode_pop hd),
        fun w hw => hreleased w (.inl hw), hattention⟩
      rw [← hp]

end Sys2Proof.Machine.Laws

namespace Sys2Proof.Machine.Laws

open Sys2Proof Sys2Proof.Machine

/-! ### Re-examination of a Push Waiter list, head by head (R78) -/

/-- A head that fits is granted, and the re-examination goes on. -/
theorem reexaminePush_of_fits {s : State} {q : QueueId} {w : Waiter} {ws : List Waiter}
    (hw : (s.queue q).pushWaiters = w :: ws) (hf : 1 + w.length.val ≤ (s.queue q).free) (hl : s.reservations.length < 48) :
    s.reexaminePush q = ((s.setQueue q { s.queue q with pushWaiters := ws }).grantPush q w.requester w.tag
      w.length).reexaminePush q := by
  have hgrant : s.grantHead q w =
      (s.setQueue q { s.queue q with pushWaiters := ws }).grantPush q w.requester w.tag w.length := by
    rw [State.grantHead, hw]
    rfl
  have hrest : ((s.grantHead q w).queue q).pushWaiters = ws := by
    rw [grantHead_queue_same, hw]
    rfl
  rw [← hgrant, State.reexaminePush, State.reexaminePush, hrest, hw, reexaminePushFrom_cons hw,
    if_pos ((pushFits_iff s q w.length).2 ⟨hf, hl⟩)]

/-- A head that does not fit, or finds no entry free, ends the re-examination. -/
theorem reexaminePush_stays {s : State} {q : QueueId}
    (h : ∀ w ∈ (s.queue q).pushWaiters.head?, (s.queue q).free < 1 + w.length.val ∨ 48 ≤ s.reservations.length) :
    s.reexaminePush q = s := by
  cases hw : (s.queue q).pushWaiters with
  | nil => exact reexaminePush_of_no_waiter hw
  | cons w ws =>
    have hfits : ¬s.pushFits q w.length = true := by
      rw [pushFits_iff, not_and_or, not_le, not_lt]
      exact h w (by rw [hw]; rfl)
    rw [State.reexaminePush, hw, reexaminePushFrom_cons hw, if_neg hfits]

/-- From s to u, waiters have left the front of the Push Waiter list of queue q, each for a reservation entry. -/
def FrontGranted (s : State) (q : QueueId) (u : State) : Prop :=
  ∃ gone, (s.queue q).pushWaiters = gone ++ (u.queue q).pushWaiters ∧
    u.reservations.length = s.reservations.length + gone.length

theorem frontGranted_reexaminePush (s : State) (q : QueueId) : FrontGranted s q (s.reexaminePush q) := by
  refine (reexaminePushFrom_spec (P := FrontGranted s q) (fun u w hu he _ => ?_) _ rfl ⟨[], rfl, rfl⟩).1
  obtain ⟨gone, hwaiters, hlen⟩ := hu
  obtain ⟨⟨ws, hw⟩, -⟩ := eligibleHead_eq_some.1 he
  refine ⟨gone ++ [w], ?_, ?_⟩
  · rw [grantHead_queue_same, hwaiters, hw, List.append_assoc]
    rfl
  · rw [grantHead_reservations_length, hlen, List.length_append, List.length_singleton, Nat.add_assoc]

/-! ### Re-examination of a Pop Waiter list, head by head (R80) -/

section PopHeads

variable {s : State} {q : QueueId} {w : Waiter} {ws : List Waiter} (hw : (s.queue q).popWaiters = w :: ws)
  (hs : (s.queue q).state = .running ∨ (s.queue q).state = .draining)

include hw hs

/-- A head that visible can satisfy is granted, and the re-examination goes on. -/
theorem reexaminePop_of_fits (hv : w.length.val ≤ (s.queue q).visible) (hp : (s.queue q).popEntries.length < 16) :
    s.reexaminePop q = ((s.setQueue q { s.queue q with popWaiters := ws }).grantPop q w.requester w.tag
      w.length).reexaminePop q := by
  obtain ⟨e, armed, hgrant⟩ := grantPop_queue_same (s.setQueue q { s.queue q with popWaiters := ws }) q w.requester w.tag
    w.length
  rw [setQueue_queue_same] at hgrant
  rw [reexaminePop_active hs, hw, State.reexaminePopFrom, if_pos ((popFits_iff _ _ _).2 ⟨hv, hp⟩),
    reexaminePop_active (by rw [hgrant]; exact hs), hgrant]
  rfl

/-- A head that visible cannot satisfy, no further word being to come, is answered, and the re-examination goes on. -/
theorem reexaminePop_of_drained (hv : (s.queue q).visible < w.length.val) (hd : (s.queue q).state = .draining)
    (ho : s.entriesOf q = []) : s.reexaminePop q = ((s.setQueue q { s.queue q with popWaiters := ws }).declineQueue q
      w.requester w.tag .drained).reexaminePop q := by
  have hqueue := ((answersOnly_declineQueue (s.setQueue q { s.queue q with popWaiters := ws }) q w.requester w.tag
    .drained).queue q).trans (setQueue_queue_same _ _ _)
  have hfits : ¬s.popFits q w.length = true := fun h => Nat.not_le_of_lt hv ((popFits_iff _ _ _).1 h).1
  have hdrained : s.drainedFor q w.length = true := (drainedFor_iff _ _ _).2 ⟨hv, hd, (ownsNone_iff s q).2 ho⟩
  rw [reexaminePop_active hs, hw, State.reexaminePopFrom, if_neg hfits, if_pos hdrained,
    reexaminePop_active (by rw [hqueue]; exact hs), hqueue]
  rfl

end PopHeads

/-- A head that can be neither granted nor answered ends the re-examination. -/
theorem reexaminePop_stays {s : State} {q : QueueId} (hs : (s.queue q).state = .running ∨ (s.queue q).state = .draining)
    (h : ∀ w ∈ (s.queue q).popWaiters.head?,
      ((s.queue q).visible < w.length.val ∧ ¬((s.queue q).state = .draining ∧ s.entriesOf q = [])) ∨
        (w.length.val ≤ (s.queue q).visible ∧ 16 ≤ (s.queue q).popEntries.length)) : s.reexaminePop q = s := by
  rw [reexaminePop_active hs]
  cases hw : (s.queue q).popWaiters with
  | nil => rfl
  | cons w ws =>
    have hfits : ¬s.popFits q w.length = true := by
      rw [popFits_iff]
      rintro ⟨hv, hp⟩
      obtain ⟨hlt, -⟩ | ⟨-, hfull⟩ := h w (by rw [hw]; rfl)
      · exact Nat.not_le_of_lt hlt hv
      · exact Nat.not_le_of_lt hp hfull
    have hdrained : ¬s.drainedFor q w.length = true := by
      rw [drainedFor_iff, ownsNone_iff]
      rintro ⟨hlt, hd⟩
      obtain ⟨-, hmore⟩ | ⟨hv, -⟩ := h w (by rw [hw]; rfl)
      · exact hmore hd
      · exact Nat.not_le_of_lt hlt hv
    rw [State.reexaminePopFrom, if_neg hfits, if_neg hdrained]

theorem PopsGranted.gone {x y : Queue} (h : PopsGranted x y) : ∃ gone, x.popWaiters = gone ++ y.popWaiters := by
  obtain ⟨gone, ws, p, new, armed, hw, -⟩ := h
  exact ⟨gone, hw⟩

/-- What must stay is a head that visible cannot satisfy, words being still to come, or that finds the Pop Entry List full. -/
theorem popHeadMustStay.head {s : State} {q : QueueId} (h : popHeadMustStay s q) {w : Waiter} {ws : List Waiter}
    (hw : (s.queue q).popWaiters = w :: ws) :
    ((s.queue q).visible < w.length.val ∧ ¬((s.queue q).state = .draining ∧ s.entriesOf q = [])) ∨
      16 ≤ (s.queue q).popEntries.length := by
  obtain ⟨hfits, hdrained⟩ := h w ws hw
  rw [← Bool.not_eq_true, popFits_iff] at hfits
  rw [← Bool.not_eq_true, drainedFor_iff, ownsNone_iff] at hdrained
  by_cases hp : 16 ≤ (s.queue q).popEntries.length
  · exact .inr hp
  · have hv : (s.queue q).visible < w.length.val := Nat.lt_of_not_le fun hle => hfits ⟨hle, Nat.lt_of_not_le hp⟩
    exact .inl ⟨hv, fun hd => hdrained ⟨hv, hd⟩⟩

/-- Settles O41: each list is served from its head on, by one unfolding rule per grant or answer. -/
theorem reexaminationStopsAtAHeadThatMustStay : Obligations.ReexaminationStopsAtAHeadThatMustStay := by
  refine ⟨fun s q => ?_, fun s q hs => ?_, fun s q w ws hw hf hl => reexaminePush_of_fits hw hf hl,
    fun s q w ws hw hs => ⟨reexaminePop_of_fits hw hs, reexaminePop_of_drained hw hs⟩⟩
  · obtain ⟨gone, hwaiters, hlen⟩ := frontGranted_reexaminePush s q
    refine ⟨gone, hwaiters, hlen, fun p hp => reexaminePush_queue_other s hp, fun w ws hw => ?_⟩
    exact (reexaminePush_stops s q).symm.imp_left fun hhead => eligibleHead_eq_none.1 hhead w ws hw
  · obtain ⟨-, hres, hothers, hqueue⟩ := popsServed_reexaminePop s q
    have hentries : (s.reexaminePop q).entriesOf q = s.entriesOf q := by rw [State.entriesOf, hres, State.entriesOf]
    refine ⟨hqueue.gone, fun w ws hw => ?_, hres, hothers⟩
    rw [← hqueue.state, ← hentries]
    exact (reexaminePop_stops hs).head hw

end Sys2Proof.Machine.Laws

namespace Sys2Proof.Machine.Laws

open Sys2Proof Sys2Proof.Machine

/-! ### RETRY for a held request (R138, R139, R173) -/

theorem retry_eq (s : State) (q : QueueId) (r : Requester) (t : Tag) (reason : Reason) :
    s.retry q r t reason = (s.loggedRetry q r t reason).answer r t .retry (some reason) [] := rfl

theorem loggedRetry_sys (s : State) (q : QueueId) (r : Requester) (t : Tag) (reason : Reason) :
    (s.loggedRetry q r t reason).sys = s.sys := by
  unfold State.loggedRetry
  split <;> rfl

section Retry

variable {s : State} {r : Requester} {t : Tag} {x : Transaction} (hx : s.transaction r t = some x) (hn : x.answer = none)
  (q : QueueId) (reason : Reason)

include hx hn

/-- A read's response of all-ones data leaves at once. -/
theorem retry_of_read (hdir : x.request.direction = .read) : s.retry q r t reason =
    (s.loggedRetry q r t reason).respondedTo r t .retry (List.replicate x.request.beats.val (BitVec.allOnes 64)) := by
  rw [retry_eq, answer_sent ((transaction_of_sys (loggedRetry_sys ..) r t).trans hx) hn ((beatsIn_iff x).2 (.inl hdir)),
    answerData_read hdir (by decide)]
  rfl

/-- A write whose beats are not in keeps its answer. -/
theorem retry_of_write (hdir : x.request.direction = .write) (hmore : x.received < x.request.beats.val) :
    s.retry q r t reason = (s.loggedRetry q r t reason).setTransaction
      { x with answer := some ⟨.retry, some reason, []⟩, beatMode := some .dropping } := by
  rw [retry_eq, answer_kept ((transaction_of_sys (loggedRetry_sys ..) r t).trans hx) hn (beatsIn_of_missing hdir hmore),
    answerData_write hdir]

end Retry

/-! ### The expiry of a held request (R81) -/

theorem grantsOnly_expireHeld (s : State) (h : HeldRequest) : GrantsOnly s (s.expireHeld h) := by
  have hretry := answersOnly_retry (s.leave h) h.queue h.waiter.requester h.waiter.tag .timeout
  have honly : GrantsOnly s ((s.leave h).retry h.queue h.waiter.requester h.waiter.tag .timeout) :=
    ⟨hretry.arrivals, hretry.link, hretry.arbiterDue, hretry.pending⟩
  unfold State.expireHeld
  dsimp only
  split
  · cases h.side with
    | push => exact honly.trans (granted_reexaminePush _ _).only
    | pop => exact honly.trans (popsServed_reexaminePop _ _).only
  · exact honly

theorem firstDue_iff (s : State) (h : HeldRequest) :
    s.firstDue h = true ↔ ∀ k ∈ s.heldRequests, h.waiter.deadline ≤ k.waiter.deadline := by
  simp [State.firstDue]

/-- WAITER_EXPIRY of the held request that is due first, with nothing stalled and no soft reset in progress. -/
theorem exec_waiterExpiry_of_first {s : State} {h : HeldRequest}
    (hh : s.heldRequest h.waiter.requester h.waiter.tag = some h)
    (hd : ∀ k ∈ s.heldRequests, h.waiter.deadline ≤ k.waiter.deadline) (ha : s.sys.arrivals = [])
    (hr : s.link.softReset = false) :
    exec (.waiterExpiry h.waiter.requester h.waiter.tag) s = .next (s.clearOutputs.expireHeld h) := by
  have hheld : s.clearOutputs.heldRequest h.waiter.requester h.waiter.tag = some h := hh
  have hfirst : s.clearOutputs.firstDue h = true := (firstDue_iff s.clearOutputs h).2 hd
  have hfinish := finish_of_grantsOnly (grantsOnly_expireHeld s.clearOutputs h) ha hr
  refine congrArg Host.Outcome.next ?_
  rw [State.expire, hheld]
  dsimp only
  rw [if_pos hfirst, hfinish]

/-- WAITER_EXPIRY of a held request has no effect while another has an earlier deadline (log entry 2). -/
theorem exec_waiterExpiry_of_not_first {s : State} {h : HeldRequest}
    (hh : s.heldRequest h.waiter.requester h.waiter.tag = some h)
    (hd : ∃ k ∈ s.heldRequests, k.waiter.deadline < h.waiter.deadline) :
    exec (.waiterExpiry h.waiter.requester h.waiter.tag) s = .next s.clearOutputs := by
  have hheld : s.clearOutputs.heldRequest h.waiter.requester h.waiter.tag = some h := hh
  have hfirst : ¬s.clearOutputs.firstDue h = true := fun hf => by
    obtain ⟨k, hk, hlt⟩ := hd
    exact Nat.not_le_of_lt hlt ((firstDue_iff s.clearOutputs h).1 hf k hk)
  refine congrArg Host.Outcome.next ?_
  rw [State.expire, hheld]
  dsimp only
  rw [if_neg hfirst]

/-- The waiter w of queue q has gone, the other waiters of its list being `rest`, and the clock has reached its deadline. -/
def withoutWaiter (s : State) (q : QueueId) (side : Side) (w : Waiter) (rest : List Waiter) : State :=
  (s.setQueue q ((s.queue q).withWaiters side rest)).withHold { s.hold with clock := max s.hold.clock w.deadline }

/-- The waiter of a name leaves its list, and those of other names stay. -/
theorem filter_other_waiters {w : Waiter} {before after : List Waiter}
    (h : ∀ k, k ∈ before ∨ k ∈ after → ¬(k.requester = w.requester ∧ k.tag = w.tag)) :
    (before ++ w :: after).filter (fun k => !k.named w.requester w.tag) = before ++ after := by
  have hself : w.named w.requester w.tag = true := decide_eq_true ⟨rfl, rfl⟩
  have hstay : ∀ l : List Waiter, (∀ k ∈ l, k ∈ before ∨ k ∈ after) →
      l.filter (fun k => !k.named w.requester w.tag) = l := fun l hl =>
    List.filter_eq_self.2 fun k hk => by
      rw [Waiter.named, decide_eq_false (h k (hl k hk))]
      rfl
  rw [List.filter_append, List.filter_cons_of_neg (by rw [hself]; decide),
    hstay before fun _ => .inl, hstay after fun _ => .inr]

theorem leave_eq {s : State} {q : QueueId} {side : Side} {w : Waiter} {before after : List Waiter}
    (hw : (s.queue q).waiters side = before ++ w :: after)
    (hother : ∀ k, k ∈ before ∨ k ∈ after → ¬(k.requester = w.requester ∧ k.tag = w.tag)) :
    s.leave ⟨q, side, w⟩ = withoutWaiter s q side w (before ++ after) := by
  rw [State.leave, hw]
  dsimp only
  rw [filter_other_waiters hother]
  rfl

/-- Behind the head, the waiter is answered and nothing is re-examined. -/
theorem expireHeld_behind {s : State} {q : QueueId} {side : Side} {h w : Waiter} {before after : List Waiter}
    (hw : (s.queue q).waiters side = h :: before ++ w :: after)
    (hother : ∀ k, k ∈ h :: before ∨ k ∈ after → ¬(k.requester = w.requester ∧ k.tag = w.tag)) :
    s.expireHeld ⟨q, side, w⟩ =
      (withoutWaiter s q side w (h :: before ++ after)).retry q w.requester w.tag .timeout := by
  have hhead : ¬s.isHead ⟨q, side, w⟩ = true := by
    rw [isHead_iff]
    rintro ⟨ws, hws⟩
    have heq : h = w := (List.cons.inj (hw.symm.trans hws)).1
    exact hother h (.inl List.mem_cons_self) (heq ▸ ⟨rfl, rfl⟩)
  rw [State.expireHeld, leave_eq hw hother, if_neg hhead]

/-- When the head goes, it is answered and the list re-examined (R78, R80). -/
theorem expireHeld_head {s : State} {q : QueueId} {side : Side} {w : Waiter} {ws : List Waiter}
    (hw : (s.queue q).waiters side = w :: ws) (hother : ∀ k ∈ ws, ¬(k.requester = w.requester ∧ k.tag = w.tag)) :
    s.expireHeld ⟨q, side, w⟩ = ((withoutWaiter s q side w ws).retry q w.requester w.tag .timeout).reexamine q side := by
  have hleave : s.leave ⟨q, side, w⟩ = withoutWaiter s q side w ws :=
    leave_eq (before := []) hw fun k hk => hother k (hk.resolve_left List.not_mem_nil)
  rw [State.expireHeld, hleave, if_pos ((isHead_iff s ⟨q, side, w⟩).2 ⟨ws, hw⟩)]

/-- The answer leaves the queue without the waiter, and the Reservation Table as it was. -/
theorem withoutWaiter_retry (s : State) (q : QueueId) (side : Side) (w : Waiter) (ws : List Waiter) :
    ((withoutWaiter s q side w ws).retry q w.requester w.tag .timeout).queue q = (s.queue q).withWaiters side ws ∧
      ((withoutWaiter s q side w ws).retry q w.requester w.tag .timeout).reservations = s.reservations := by
  have hframe := answersOnly_retry (withoutWaiter s q side w ws) q w.requester w.tag .timeout
  refine ⟨(hframe.queue q).trans ?_, hframe.reservations⟩
  rw [withoutWaiter, withHold_queue, setQueue_queue_same]

/-- Re-examination grants the one push that waits, and is done. -/
theorem reexaminePush_grants_one {s : State} {q : QueueId} {w : Waiter} (hw : (s.queue q).pushWaiters = [w])
    (hf : 1 + w.length.val ≤ (s.queue q).free) (hl : s.reservations.length < 48) : s.reexaminePush q =
      (s.setQueue q { s.queue q with pushWaiters := [] }).grantPush q w.requester w.tag w.length := by
  rw [reexaminePush_of_fits hw hf hl, reexaminePush_of_no_waiter]
  rw [grantPush_queue_same, setQueue_queue_same]

/-- Settles O48: the waiter leaves and is answered; where it was the head, re-examination decides the new head. -/
theorem expiryAnswersTheWaiter : Obligations.ExpiryAnswersTheWaiter := by
  refine ⟨fun s h w q side before after x hw hh hd hother hx hn ha hr => ?_,
    fun s w ws q x hw hh hd hother hx hn hdir hmore ha hr => ?_,
    fun s w ws q x hw hh hd hother hx hn hdir ha hr hs => ?_, fun s h hh hd => exec_waiterExpiry_of_not_first hh hd⟩
  · have hexec := exec_waiterExpiry_of_first (h := ⟨q, side, w⟩) hh hd ha hr
    rw [expireHeld_behind (s := s.clearOutputs) hw hother] at hexec
    refine ⟨fun hdir => ?_, fun hdir hmore => ?_⟩
    · rw [hexec, retry_of_read (s := withoutWaiter s.clearOutputs q side w _) hx hn q .timeout hdir]
      rfl
    · rw [hexec, retry_of_write (s := withoutWaiter s.clearOutputs q side w _) hx hn q .timeout hdir hmore]
      rfl
  · have hexec := exec_waiterExpiry_of_first (h := ⟨q, .push, w⟩) hh hd ha hr
    obtain ⟨hqueue, hres⟩ := withoutWaiter_retry s.clearOutputs q .push w ws
    rw [expireHeld_head (s := s.clearOutputs) (side := .push) hw hother, State.reexamine] at hexec
    rw [retry_of_write (s := withoutWaiter s.clearOutputs q .push w ws) hx hn q .timeout hdir hmore] at hexec hqueue hres
    refine ⟨fun hstays => ?_, fun next hws hf hl => ?_⟩
    · rw [hexec, reexaminePush_stays (by rw [hqueue, hres]; exact hstays)]
      rfl
    · rw [hexec, reexaminePush_grants_one (w := next) (by rw [hqueue]; exact hws) (by rw [hqueue]; exact hf)
        (by rw [hres]; exact hl), hqueue]
      rfl
  · have hexec := exec_waiterExpiry_of_first (h := ⟨q, .pop, w⟩) hh hd ha hr
    obtain ⟨hqueue, hres⟩ := withoutWaiter_retry s.clearOutputs q .pop w ws
    rw [expireHeld_head (s := s.clearOutputs) (side := .pop) hw hother, State.reexamine] at hexec
    rw [retry_of_read (s := withoutWaiter s.clearOutputs q .pop w ws) hx hn q .timeout hdir] at hexec hqueue hres
    refine ⟨fun hstays => ?_, fun next hws hv hp => ?_⟩
    · rw [hexec, reexaminePop_stays (by rw [hqueue]; exact hs) (by rw [hqueue, State.entriesOf, hres]; exact hstays)]
      rfl
    · rw [hexec, reexaminePop_grants_one (w := next) (ws := []) (by rw [hqueue]; exact hws)
        (by rw [hqueue]; exact hs) rfl (by rw [hqueue]; exact hv) (by rw [hqueue]; exact hp), hqueue]
      rfl

end Sys2Proof.Machine.Laws

namespace Sys2Proof.Machine.Laws

open Sys2Proof Sys2Proof.Machine

/-! ### An empty command queue (R81) -/

theorem mem_due_iff (s : State) (h : HeldRequest) : h ∈ s.due ↔ h ∈ s.heldRequests ∧
    h.waiter.deadline ≤ s.hold.clock ∧ ∀ k ∈ s.heldRequests, h.waiter.deadline ≤ k.waiter.deadline := by
  rw [State.due, List.mem_filter, Bool.and_eq_true, decide_eq_true_eq, firstDue_iff]

/-- While no deadline is reached, none is due. -/
theorem due_eq_nil {s : State} (h : ∀ k ∈ s.heldRequests, s.hold.clock < k.waiter.deadline) : s.due = [] :=
  List.eq_nil_iff_forall_not_mem.2 fun k hk => by
    obtain ⟨hmem, hle, -⟩ := (mem_due_iff s k).1 hk
    exact Nat.not_le_of_lt (h k hmem) hle

/-- Where a deadline is reached, the earliest one is due. -/
theorem due_ne_nil {s : State} (h : ∃ k ∈ s.heldRequests, k.waiter.deadline ≤ s.hold.clock) : s.due ≠ [] := by
  obtain ⟨k, hk, hle⟩ := h
  obtain ⟨m, hm, hmin⟩ := s.heldRequests.toFinset.exists_min_image (fun h => h.waiter.deadline)
    ⟨k, List.mem_toFinset.2 hk⟩
  simp only [List.mem_toFinset] at hm hmin
  exact List.ne_nil_of_mem ((mem_due_iff s m).2 ⟨hm, (hmin k hk).trans hle, hmin⟩)

/-- The request that is chosen is one of those due. -/
theorem chooseDue_mem (s : State) (h : HeldRequest) (hs : List HeldRequest) : s.chooseDue h hs ∈ h :: hs := by
  have hlt : Config.dueChoice s.freeUses % (hs.length + 1) < (h :: hs).length := Nat.mod_lt _ (Nat.succ_pos _)
  rw [State.chooseDue, List.getElem?_eq_getElem hlt, Option.getD_some]
  exact List.getElem_mem hlt

/-- Where requests are due, one of them expires. -/
theorem idle_expires {s : State} (h : s.due ≠ []) : ∃ c ∈ s.due,
    idle s = exec (.waiterExpiry c.waiter.requester c.waiter.tag) s ∨
      idle s = exec (.waiterExpiry c.waiter.requester c.waiter.tag) s.useFree := by
  unfold idle
  match hdue : s.due with
  | [] => exact absurd hdue h
  | [c] => exact ⟨c, List.mem_singleton.2 rfl, .inl rfl⟩
  | c :: d :: ds => exact ⟨s.chooseDue c (d :: ds), chooseDue_mem s c (d :: ds), .inr rfl⟩

/-- Settles O2: a request is due exactly where some deadline is reached, and the one chosen is one of those due. -/
theorem emptyQueueLetsHoldTimePass : Obligations.EmptyQueueLetsHoldTimePass := by
  intro s hpending
  have hstep : step s = idle s := by
    rw [step, hpending]
  refine ⟨fun h => ?_, fun h => ?_⟩
  · rw [hstep, idle, due_eq_nil h]
    rfl
  · obtain ⟨c, hc, hidle⟩ := idle_expires (due_ne_nil h)
    obtain ⟨hmem, hle, hmin⟩ := (mem_due_iff s c).1 hc
    exact ⟨c, hmem, hle, hmin, by rwa [hstep]⟩

end Sys2Proof.Machine.Laws

namespace Sys2Proof.Machine.Laws

open Sys2Proof Sys2Proof.Machine

/-! ### START (R91) -/

/-- START of a STOPPED queue with a ring. -/
theorem actStart_of_ring {s : State} {q : QueueId} (h : (s.queue q).state = .stopped)
    (hr : (s.queue q).config.ringSize ≠ 0) : s.act q .start = ⟨s.setQueue q (s.queue q).started, .done, []⟩ := by
  simp only [State.act, State.actStart, h, if_neg hr, State.modifyQueue]

/-- START of a STOPPED queue without a ring. -/
theorem actStart_of_no_ring {s : State} {q : QueueId} (h : (s.queue q).state = .stopped)
    (hr : (s.queue q).config.ringSize = 0) : s.act q .start = ⟨s, .badConfig, []⟩ := by
  simp only [State.act, State.actStart, h, hr, if_true]

/-- START of a queue that is not STOPPED. -/
theorem actStart_of_not_stopped {s : State} {q : QueueId} (h : (s.queue q).state ≠ .stopped) :
    s.act q .start = ⟨s, .refusedState, []⟩ := by
  rw [State.act, State.actStart]
  cases hs : (s.queue q).state with
  | stopped => exact absurd hs h
  | _ => rfl

/-- Settles O14: the three cases of R91; none of them sends a response. -/
theorem startRunsAStoppedQueue : Obligations.StartRunsAStoppedQueue := by
  intro s q superseded ho
  have hexec := exec_action ho
  refine ⟨fun hs hring => ?_, fun hs hring => ?_, fun hs => ?_⟩
  · rw [actStart_of_ring (s := s.clearOutputs) hs hring] at hexec
    exact hexec.trans (congrArg _ (finish_executed _ _ _ rfl ho.2))
  · rw [actStart_of_no_ring (s := s.clearOutputs) hs hring] at hexec
    exact hexec.trans (congrArg _ (finish_executed _ _ _ rfl ho.2))
  · rw [actStart_of_not_stopped (s := s.clearOutputs) hs] at hexec
    exact hexec.trans (congrArg _ (finish_executed _ _ _ rfl ho.2))

/-! ### ARM-NOTICE (R103, R109) -/

theorem actArmNotice_of_stopped {s : State} {q : QueueId} (h : (s.queue q).state = .stopped) :
    s.act q .armNotice = ⟨s, .refusedState, []⟩ := by
  simp only [State.act, State.actArmNotice, h]

theorem actArmNotice_of_not_stopped {s : State} {q : QueueId} (h : (s.queue q).state ≠ .stopped) :
    s.act q .armNotice = ⟨(s.setQueue q { s.queue q with noticeArmed := true }).noticeCheck q, .done, []⟩ := by
  rw [State.act, State.actArmNotice]
  cases hs : (s.queue q).state with
  | stopped => exact absurd hs h
  | _ => rfl

/-- Settles O20: the notice is armed, so that its check turns on the threshold and the notice writes outstanding alone. -/
theorem armNoticeChecksTheQueue : Obligations.ArmNoticeChecksTheQueue := by
  intro s q superseded ho
  have hexec := exec_action ho
  have harmed : ((s.clearOutputs.setQueue q { s.queue q with noticeArmed := true }).queue q) =
      { s.queue q with noticeArmed := true } := setQueue_queue_same _ q _
  refine ⟨fun hs => ?_, fun hs => ⟨fun hfires => ?_, fun hfires => ?_⟩⟩
  · rw [actArmNotice_of_stopped (s := s.clearOutputs) hs] at hexec
    exact hexec.trans (congrArg _ (finish_executed _ _ _ rfl ho.2))
  · rw [actArmNotice_of_not_stopped (s := s.clearOutputs) hs, clearOutputs_queue,
      noticeCheck_of_fires (by rw [harmed]; exact ⟨rfl, hfires⟩), harmed, setQueue_setQueue] at hexec
    exact hexec.trans (congrArg _ (finish_executed _ _ _ rfl ho.2))
  · rw [actArmNotice_of_not_stopped (s := s.clearOutputs) hs, clearOutputs_queue,
      noticeCheck_of_not_fires (by rw [harmed]; exact fun h => hfires h.2)] at hexec
    exact hexec.trans (congrArg _ (finish_executed _ _ _ rfl ho.2))

end Sys2Proof.Machine.Laws

namespace Sys2Proof.Machine.Laws

open Sys2Proof Sys2Proof.Machine

/-! ### Held requests of different names (R134) -/

/-- Where no two held requests share a requester and tag, a push waiter and a pop waiter of one queue do not. -/
theorem push_pop_names_ne {s : State} (h : (s.heldRequests.map (fun h => (h.waiter.requester, h.waiter.tag))).Nodup)
    {q : QueueId} {w v : Waiter} (hw : w ∈ (s.queue q).pushWaiters) (hv : v ∈ (s.queue q).popWaiters) :
    ¬(v.requester = w.requester ∧ v.tag = w.tag) := by
  rw [State.heldRequests, List.map_flatMap, List.nodup_flatMap] at h
  have hq := h.1 q (List.mem_finRange q)
  rw [State.heldIn, List.map_append, List.nodup_append'] at hq
  obtain ⟨-, -, hdisjoint⟩ := hq
  rintro ⟨hr, ht⟩
  have hpush : (w.requester, w.tag) ∈ ((s.queue q).pushWaiters.map (HeldRequest.mk q .push)).map
      (fun h => (h.waiter.requester, h.waiter.tag)) := List.mem_map.2 ⟨_, List.mem_map.2 ⟨w, hw, rfl⟩, rfl⟩
  exact hdisjoint hpush (List.mem_map.2 ⟨_, List.mem_map.2 ⟨v, hv, rfl⟩, Prod.ext hr ht⟩)

/-! ### Lists of waiters that are answered (R83) -/

/-- The answers to a list of waiters leave the transactions of other names. -/
theorem transaction_declineWaiters_other (s : State) (q : QueueId) (reason : Reason) {ws : List Waiter} {r : Requester} {t : Tag}
    (h : ∀ w ∈ ws, ¬(r = w.requester ∧ t = w.tag)) :
    (s.declineWaiters q reason ws).transaction r t = s.transaction r t :=
  List.foldlRecOn (motive := fun u : State => u.transaction r t = s.transaction r t) ws _ rfl
    (fun u hu w hw => (transaction_answer_other (u.appendLog _) (h w hw) _ _ _).trans hu)

theorem declineWaiters_setQueue (q k : QueueId) (x : Queue) (reason : Reason) (ws : List Waiter) (s : State) :
    (s.setQueue k x).declineWaiters q reason ws = (s.declineWaiters q reason ws).setQueue k x := by
  induction ws generalizing s with
  | nil => rfl
  | cons w ws ih =>
    exact (congrArg (fun u => State.declineWaiters u q reason ws) (declineQueue_setQueue s q k x _ _ _)).trans (ih _)

/-- A DRAINING queue that owns no entry, and whose visible words satisfy none of its pop waiters, answers each DECLINE
(DRAINED) (R80). -/
theorem reexaminePop_of_short (ws : List Waiter) {s : State} {q : QueueId} (hs : (s.queue q).state = .draining)
    (ho : s.entriesOf q = []) (hws : (s.queue q).popWaiters = ws) (hv : ∀ w ∈ ws, (s.queue q).visible < w.length.val) :
    s.reexaminePop q = (s.setQueue q { s.queue q with popWaiters := [] }).declineWaiters q .drained ws := by
  induction ws generalizing s with
  | nil => rw [reexaminePop_of_no_waiter hws, ← hws, setQueue_same rfl, hws]; rfl
  | cons w ws ih =>
    have hframe := answersOnly_declineQueue (s.setQueue q { s.queue q with popWaiters := ws }) q w.requester w.tag .drained
    have hqueue := (hframe.queue q).trans (setQueue_queue_same s q _)
    rw [reexaminePop_of_drained hws (.inr hs) (hv w List.mem_cons_self) hs ho,
      ih (by rw [hqueue]; exact hs) (by rw [hframe.entriesOf]; exact ho) (by rw [hqueue])
        (fun v hv' => by rw [hqueue]; exact hv v (List.mem_cons_of_mem _ hv')),
      hqueue, ← declineQueue_setQueue, setQueue_setQueue]
    rfl

/-! ### DRAIN of a RUNNING queue (R92) -/

/-- The bridge when a queue has moved to DRAINING and its push waiters have been released. -/
def drainStarted (s : State) (q : QueueId) : State :=
  (s.setQueue q { s.queue q with state := .draining, pushWaiters := [] }).declineWaiters q .state (s.queue q).pushWaiters

theorem drainQueue_eq (s : State) (q : QueueId) : s.drainQueue q =
    (if (drainStarted s q).ownsNone q then (drainStarted s q).reexaminePop q else drainStarted s q).testDrain q := by
  have hstart : (s.modifyQueue q (fun x => { x with state := .draining })).releaseList q .push .state = drainStarted s q := by
    rw [State.releaseList, State.setWaiters, State.modifyQueue, State.modifyQueue, setQueue_queue_same, setQueue_setQueue]
    rfl
  rw [State.drainQueue, hstart]

theorem answersOnly_drainStarted (s : State) (q : QueueId) :
    AnswersOnly (s.setQueue q { s.queue q with state := .draining, pushWaiters := [] }) (drainStarted s q) :=
  answersOnly_declineWaiters q .state _ _

theorem drainStarted_queue (s : State) (q : QueueId) :
    (drainStarted s q).queue q = { s.queue q with state := .draining, pushWaiters := [] } :=
  ((answersOnly_drainStarted s q).queue q).trans (setQueue_queue_same s q _)

theorem drainStarted_queue_other (s : State) {p q : QueueId} (h : p ≠ q) : (drainStarted s q).queue p = s.queue p :=
  ((answersOnly_drainStarted s q).queue p).trans (setQueue_queue_other s h _)

theorem drainStarted_entriesOf (s : State) (q : QueueId) : (drainStarted s q).entriesOf q = s.entriesOf q :=
  (answersOnly_drainStarted s q).entriesOf q

theorem drainStarted_log (s : State) (q : QueueId) : (drainStarted s q).log =
    s.log.appendAll ((s.queue q).pushWaiters.map (fun w => queueLogEntry .state w.requester w.tag q)) :=
  declineWaiters_log _ q .state _

/-- Every push waiter has its answer. -/
theorem drainStarted_declined {s : State} {q : QueueId} {w : Waiter} (hw : w ∈ (s.queue q).pushWaiters) {x : Transaction}
    (hx : s.transaction w.requester w.tag = some x) (hnone : x.answer = none) : Declined x .state (drainStarted s q) := by
  obtain ⟨hr, ht⟩ := transaction_named hx
  have hstands : StandsOrDeclined x .state (s.setQueue q { s.queue q with state := .draining, pushWaiters := [] }) :=
    .inl (by rw [hr, ht]; exact hx)
  exact hstands.declineWaiters_declined hnone hr ht q hw

/-- A queue that owns an entry drains when the entry is gone. -/
theorem drainQueue_of_entry {s : State} {q : QueueId} (h : s.entriesOf q ≠ []) : s.drainQueue q = drainStarted s q := by
  have howns : ¬(drainStarted s q).ownsNone q = true := by rwa [ownsNone_iff, drainStarted_entriesOf]
  rw [drainQueue_eq, if_neg howns, testDrain_of_not (fun hd => howns hd.2.1)]

/-- A queue that owns no entry re-examines its pop waiters, and drains if nothing is left for them. -/
theorem drainQueue_of_no_entry {s : State} {q : QueueId} (h : s.entriesOf q = []) :
    s.drainQueue q = ((drainStarted s q).reexaminePop q).testDrain q := by
  rw [drainQueue_eq, if_pos ((ownsNone_iff _ q).2 ((drainStarted_entriesOf s q).trans h))]

/-- A queue with a pop entry or a word visible has one after the re-examination of its pop waiters too: a grant leaves its pop
entry. -/
theorem testDrain_reexaminePop_of_left {s : State} {q : QueueId} (h : (s.queue q).popEntries ≠ [] ∨ (s.queue q).visible ≠ 0) :
    (s.reexaminePop q).testDrain q = s.reexaminePop q := by
  obtain hpops | hvisible := h
  · refine testDrain_of_not (fun ⟨_, _, hnil, _⟩ => hpops ?_)
    have hserved := (popsServed_reexaminePop s q).queue
    generalize (s.reexaminePop q).queue q = y at hserved hnil
    obtain ⟨gone, ws, p, new, armed, -, -⟩ := hserved
    exact (List.append_eq_nil_iff.1 hnil).1
  · exact testDrain_reexaminePop (Nat.pos_of_ne_zero hvisible)

/-! ### DRAIN that answers every waiter (R80, R92, R93) -/

/-- The bridge when a queue has moved to DRAINING, its push waiters have been released, and its pop waiters answered
DECLINE (DRAINED). -/
def drainAnswered (s : State) (q : QueueId) : State :=
  ((s.setQueue q { s.queue q with state := .draining, pushWaiters := [], popWaiters := [] }).declineWaiters q .state
    (s.queue q).pushWaiters).declineWaiters q .drained (s.queue q).popWaiters

theorem reexaminePop_drainStarted {s : State} {q : QueueId} (ho : s.entriesOf q = [])
    (hv : ∀ w ∈ (s.queue q).popWaiters, (s.queue q).visible < w.length.val) :
    (drainStarted s q).reexaminePop q = drainAnswered s q := by
  have hqueue := drainStarted_queue s q
  rw [reexaminePop_of_short (s.queue q).popWaiters (by rw [hqueue]) ((drainStarted_entriesOf s q).trans ho) (by rw [hqueue])
    (by rw [hqueue]; exact hv), hqueue, drainStarted, ← declineWaiters_setQueue, setQueue_setQueue, drainAnswered]

theorem answersOnly_drainAnswered (s : State) (q : QueueId) :
    AnswersOnly (s.setQueue q { s.queue q with state := .draining, pushWaiters := [], popWaiters := [] })
      (drainAnswered s q) :=
  (answersOnly_declineWaiters q .state _ _).trans (answersOnly_declineWaiters q .drained _ _)

theorem drainAnswered_queue (s : State) (q : QueueId) :
    (drainAnswered s q).queue q = { s.queue q with state := .draining, pushWaiters := [], popWaiters := [] } :=
  ((answersOnly_drainAnswered s q).queue q).trans (setQueue_queue_same s q _)

theorem drainAnswered_log (s : State) (q : QueueId) : (drainAnswered s q).log = (drainStarted s q).log.appendAll
    ((s.queue q).popWaiters.map (fun w => queueLogEntry .drained w.requester w.tag q)) := by
  rw [drainAnswered, declineWaiters_log, declineWaiters_log, drainStarted_log]
  rfl

theorem drainAnswered_push_declined {s : State} {q : QueueId} {w : Waiter} (hw : w ∈ (s.queue q).pushWaiters) {x : Transaction}
    (hx : s.transaction w.requester w.tag = some x) (hnone : x.answer = none) : Declined x .state (drainAnswered s q) := by
  obtain ⟨hr, ht⟩ := transaction_named hx
  have hstands : StandsOrDeclined x .state
      (s.setQueue q { s.queue q with state := .draining, pushWaiters := [], popWaiters := [] }) :=
    .inl (by rw [hr, ht]; exact hx)
  exact (hstands.declineWaiters_declined hnone hr ht q hw).declineWaiters q .drained _

/-- A pop waiter that shares its name with no push waiter is still held when the push waiters have been released. -/
theorem drainAnswered_pop_declined {s : State} (h : (s.heldRequests.map (fun h => (h.waiter.requester, h.waiter.tag))).Nodup)
    {q : QueueId} {w : Waiter} (hw : w ∈ (s.queue q).popWaiters) {x : Transaction}
    (hx : s.transaction w.requester w.tag = some x) (hnone : x.answer = none) :
    Declined x .drained (drainAnswered s q) := by
  obtain ⟨hr, ht⟩ := transaction_named hx
  have hstands : StandsOrDeclined x .drained
      ((s.setQueue q { s.queue q with state := .draining, pushWaiters := [], popWaiters := [] }).declineWaiters q .state
        (s.queue q).pushWaiters) := by
    left
    rw [hr, ht, transaction_declineWaiters_other _ q .state (fun v hv => push_pop_names_ne h hv hw)]
    exact hx
  exact hstands.declineWaiters_declined hnone hr ht q hw

/-- With nothing left, the queue then arrives at STOPPED (R93, R97). -/
theorem drainAnswered_testDrain {s : State} {q : QueueId} (ho : s.entriesOf q = []) (hp : (s.queue q).popEntries = [])
    (hv : (s.queue q).visible = 0) :
    (drainAnswered s q).testDrain q = (drainAnswered s q).setQueue q (s.queue q).atStopped := by
  have hqueue := drainAnswered_queue s q
  have howns : (drainAnswered s q).ownsNone q = true :=
    (ownsNone_iff _ q).2 (((answersOnly_drainAnswered s q).entriesOf q).trans ho)
  rw [testDrain_of_complete (by rw [hqueue]; exact ⟨rfl, howns, hp, hv⟩), hqueue]
  rfl

/-! ### The DRAIN command -/

theorem actDrain_of_running {s : State} {q : QueueId} (h : (s.queue q).state = .running) :
    s.act q .drain = ⟨s.drainQueue q, .done, []⟩ := by
  simp only [State.act, State.actDrain, h]

theorem actDrain_of_draining {s : State} {q : QueueId} (h : (s.queue q).state = .draining) :
    s.act q .drain = ⟨s, .done, []⟩ := by
  simp only [State.act, State.actDrain, h]

theorem actDrain_of_refused {s : State} {q : QueueId} (h : (s.queue q).state = .stopped ∨ (s.queue q).state = .stopping ∨
    (s.queue q).state = .faulted) : s.act q .drain = ⟨s, .refusedState, []⟩ := by
  rw [State.act, State.actDrain]
  obtain h | h | h := h <;> rw [h]

/-- With nothing stalled at the port, DRAIN of a RUNNING queue ends with the queue's own event. -/
theorem exec_drain_of_running {s : State} {q : QueueId} {superseded : Bool} (ho : s.orders .drain q superseded)
    (h : (s.queue q).state = .running) (ha : (s.clearOutputs.drainQueue q).sys.arrivals = [])
    (hl : (s.clearOutputs.drainQueue q).link = s.clearOutputs.link) :
    exec .drain s = .next ((s.clearOutputs.drainQueue q).executed superseded .done []) := by
  have hexec := exec_action ho
  rw [actDrain_of_running (s := s.clearOutputs) h] at hexec
  exact hexec.trans (congrArg _ (finish_executed_of_no_arrival _ _ _ ha (by rw [hl]; exact ho.2)))

theorem executed_link {t s : State} (h : t.link = s.link) (superseded : Bool) (r : Result) (p : List Byte) :
    (t.executed superseded r p).link = (s.executed superseded r p).link := by
  rw [State.executed, State.executed, h]
  rfl

/-- Settles O15: the push waiters are released in `drainStarted`; what follows turns on the queue's entries and its words. -/
theorem drainReleasesThePushWaiters : Obligations.DrainReleasesThePushWaiters := by
  refine ⟨fun s q superseded ho ha hs hentry => ?_, fun s q superseded ho => ⟨fun hs => ?_, fun hs => ?_⟩,
    fun s q superseded ho ha hnames hs hnone hpops hv => ?_, fun s q superseded ho ha hs hnone hleft => ?_⟩
  · have hdrain := drainQueue_of_entry (s := s.clearOutputs) hentry
    have hframe := answersOnly_drainStarted s.clearOutputs q
    have hexec := exec_drain_of_running ho hs (by rw [hdrain]; exact hframe.arrivals.trans ha)
      (by rw [hdrain]; exact hframe.link)
    rw [hdrain] at hexec
    exact ⟨_, hexec, drainStarted_queue s.clearOutputs q, fun p hp => drainStarted_queue_other s.clearOutputs hp,
      hframe.reservations, hframe.hold, hframe.mem, hframe.windows, hframe.classes, drainStarted_log s.clearOutputs q,
      fun w hw => answersHeld_of_declined (fun x hx hn =>
        (drainStarted_declined (s := s.clearOutputs) hw hx hn).of_sys rfl),
      executed_link hframe.link _ _ _⟩
  · have hexec := exec_action ho
    rw [actDrain_of_draining (s := s.clearOutputs) hs] at hexec
    exact hexec.trans (congrArg _ (finish_executed _ _ _ rfl ho.2))
  · have hexec := exec_action ho
    rw [actDrain_of_refused (s := s.clearOutputs) hs] at hexec
    exact hexec.trans (congrArg _ (finish_executed _ _ _ rfl ho.2))
  · have hshort : ∀ w ∈ (s.queue q).popWaiters, (s.queue q).visible < w.length.val :=
      fun w _ => by rw [hv]; exact w.length.property.1
    have hdrain := drainQueue_of_no_entry (s := s.clearOutputs) hnone
    rw [reexaminePop_drainStarted (s := s.clearOutputs) hnone hshort,
      drainAnswered_testDrain (s := s.clearOutputs) hnone hpops hv] at hdrain
    have hframe := answersOnly_drainAnswered s.clearOutputs q
    have hexec := exec_drain_of_running ho hs (by rw [hdrain]; exact hframe.arrivals.trans ha)
      (by rw [hdrain]; exact hframe.link)
    rw [hdrain] at hexec
    refine ⟨_, hexec, setQueue_queue_same _ q _, fun p hp => ?_, hframe.reservations, ?_, fun w hw => ?_, fun w hw => ?_,
      executed_link hframe.link _ _ _⟩
    · rw [executed_queue, setQueue_queue_other _ hp, hframe.queue, setQueue_queue_other _ hp, clearOutputs_queue]
    · rw [appendAll_append]
      exact (drainAnswered_log s.clearOutputs q).trans (by rw [drainStarted_log]; rfl)
    · exact answersHeld_of_declined (fun x hx hn =>
        (drainAnswered_push_declined (s := s.clearOutputs) hw hx hn).of_sys rfl)
    · exact answersHeld_of_declined (fun x hx hn =>
        (drainAnswered_pop_declined (s := s.clearOutputs) hnames hw hx hn).of_sys rfl)
  · have hframe := answersOnly_drainStarted s.clearOutputs q
    have hqueue := drainStarted_queue s.clearOutputs q
    have hserved := popsServed_reexaminePop (drainStarted s.clearOutputs q) q
    have hdrain := drainQueue_of_no_entry (s := s.clearOutputs) hnone
    rw [testDrain_reexaminePop_of_left (by rw [hqueue]; exact hleft)] at hdrain
    have hexec := exec_drain_of_running ho hs
      (by rw [hdrain]; exact (hserved.only.arrivals.trans hframe.arrivals).trans ha)
      (by rw [hdrain]; exact hserved.only.link.trans hframe.link)
    rw [hdrain] at hexec
    refine ⟨drainStarted s.clearOutputs q, hqueue, fun p hp => drainStarted_queue_other s.clearOutputs hp,
      hframe.reservations, hframe.hold, hframe.mem, hframe.windows, hframe.classes, drainStarted_log s.clearOutputs q,
      fun w hw => answersHeld_of_declined (fun x hx hn => drainStarted_declined (s := s.clearOutputs) hw hx hn),
      hexec, fun w hw hfits hplace => ?_, fun hshort hnames => ?_⟩
    · rwa [reexaminePop_grants_one (ws := []) (by rw [hqueue]; exact hw) (by rw [hqueue]; exact .inr rfl) rfl
        (by rw [hqueue]; exact hfits) (by rw [hqueue]; exact hplace)] at hexec
    · rw [reexaminePop_drainStarted (s := s.clearOutputs) hnone hshort] at hexec
      exact ⟨_, hexec, drainAnswered_queue s.clearOutputs q, drainAnswered_log s.clearOutputs q,
        fun w hw => answersHeld_of_declined (fun x hx hn =>
          (drainAnswered_pop_declined (s := s.clearOutputs) hnames hw hx hn).of_sys rfl)⟩

end Sys2Proof.Machine.Laws

namespace Sys2Proof.Machine.Laws

open Sys2Proof Sys2Proof.Machine

/-! ### Answers that a grant of the same event leaves (R36, R83, R137)

A grant sets the beat mode of the transaction of its requester and tag, and nothing else of the tracker. -/

/-- In u the transaction x, unanswered before, has been declined, whatever its beat mode. -/
def DeclinedBeforeGrants (x : Transaction) (reason : Reason) (u : State) : Prop :=
  (x.beatsIn = true ∧
    (⟨x.request.requester, x.request.tag, .decline, answerData x.request .decline []⟩ : Response) ∈ u.sys.sent) ∨
  (x.beatsIn = false ∧ ∃ m, u.transaction x.request.requester x.request.tag = some { x with
    answer := some ⟨.decline, some reason, answerData x.request .decline []⟩, beatMode := m })

theorem Declined.beforeGrants {x : Transaction} {reason : Reason} {u : State} (h : Declined x reason u) :
    DeclinedBeforeGrants x reason u := by
  obtain ⟨hb, hmem⟩ | ⟨hb, hkept⟩ := h
  · exact .inl ⟨hb, hmem⟩
  · exact .inr ⟨hb, _, hkept⟩

theorem DeclinedBeforeGrants.of_sys {x : Transaction} {reason : Reason} {u v : State} (h : DeclinedBeforeGrants x reason u)
    (hs : v.sys = u.sys) : DeclinedBeforeGrants x reason v := by
  rw [DeclinedBeforeGrants, hs, transaction_of_sys hs]
  exact h

theorem setBeatMode_sent (s : State) (r : Requester) (t : Tag) (m : BeatMode) :
    (s.setBeatMode r t m).sys.sent = s.sys.sent := by
  unfold State.setBeatMode
  split <;> rfl

/-- A transaction is found again after a beat mode has been set. -/
theorem transaction_setBeatMode {s : State} {r : Requester} {t : Tag} {x : Transaction} (h : s.transaction r t = some x)
    (r' : Requester) (t' : Tag) (m : BeatMode) :
    ∃ m', (s.setBeatMode r' t' m).transaction r t = some { x with beatMode := m' } := by
  unfold State.setBeatMode
  split
  · exact ⟨x.beatMode, h⟩
  next y hy =>
    obtain ⟨hr, ht⟩ := transaction_named hy
    by_cases hn : r = r' ∧ t = t'
    · obtain ⟨rfl, rfl⟩ := hn
      obtain rfl : x = y := Option.some.inj (h.symm.trans hy)
      exact ⟨some m, transaction_setTransaction_same h hr ht⟩
    · refine ⟨x.beatMode, (transaction_setTransaction_other s ?_).trans h⟩
      rwa [hr, ht]

theorem DeclinedBeforeGrants.grantHead {x : Transaction} {reason : Reason} {u : State} (h : DeclinedBeforeGrants x reason u)
    (q : QueueId) (w : Waiter) : DeclinedBeforeGrants x reason (u.grantHead q w) := by
  obtain ⟨hb, hmem⟩ | ⟨hb, m, hkept⟩ := h
  · exact .inl ⟨hb, by rw [grantHead_sent]; exact hmem⟩
  · exact .inr ⟨hb, transaction_setBeatMode (s := ((u.setWaiters q .push _).withReservations _).modifyQueue q _) hkept _ _ _⟩

/-- What the statements call the answer of a held request. -/
theorem answersHeld_of_declinedBeforeGrants {s t : State} {w : Waiter} {reason : Reason}
    (h : ∀ x, s.transaction w.requester w.tag = some x → x.answer = none → DeclinedBeforeGrants x reason t) :
    s.answersHeld t w .decline reason := by
  intro x hx hnone
  obtain ⟨hb, hmem⟩ | ⟨hb, m, hkept⟩ := h x hx hnone
  · refine ⟨fun hread => ?_, fun hwrite hmore => ?_⟩
    · rwa [answerData_read hread (by decide)] at hmem
    · rw [beatsIn_of_missing hwrite hmore] at hb
      cases hb
  · refine ⟨fun hread => ?_, fun hwrite _ => ⟨_, transaction_mem hkept, rfl, rfl, ?_⟩⟩
    · rw [(beatsIn_iff x).2 (.inl hread)] at hb
      cases hb
    · simp only [answerData_write hwrite]

/-! ### The grants that the freed entries of a STOP bring (R36, R95) -/

/-- What each grant of the arbiter keeps, the freeing of an entry keeps where nothing is stalled at the port. -/
theorem arbitrateIfFreed_keeps {P : State → Prop}
    (hgrant : ∀ u q w, P u → u.eligibleHead q = some w → u.reservations.length < 48 → P (u.grantHead q w))
    (huse : ∀ u, P u → P u.useFree) (hdue : ∀ u, P u → P (u.withArbiterDue true)) (s : State) {u : State}
    (ha : u.sys.arrivals = []) (h : P u) : P (s.arbitrateIfFreed u) := by
  obtain ⟨-, he⟩ | ⟨-, he⟩ := arbitrateIfFreed_cases s u
  · rw [he]
    obtain he | he | he | he := entryFreed_outcomes (s := u) (.inr ha)
    · rwa [he]
    · rw [he]
      exact arbitrate_keeps hgrant h
    · rw [he]
      exact arbitrate_keeps hgrant (huse _ h)
    · rw [he]
      exact hdue _ (huse _ h)
  · rwa [he]

/-- Grants to the pushes of queues other than q. -/
structure GrantsOthers (q : QueueId) (s t : State) : Prop where
  queue  : t.queue q = s.queue q
  others : ∀ p, PushesGranted (s.queue p) (t.queue p)
  mem    : t.mem = s.mem

theorem grantHead_mem (s : State) (q : QueueId) (w : Waiter) : (s.grantHead q w).mem = s.mem :=
  (answersOnly_setBeatMode _ _ _ _).mem

/-- A queue without a push waiter is granted none. -/
theorem GrantsOthers.grantHead {q : QueueId} {s u : State} (h : GrantsOthers q s u) (hq : (s.queue q).pushWaiters = [])
    {k : QueueId} {w : Waiter} (hw : u.eligibleHead k = some w) : GrantsOthers q s (u.grantHead k w) := by
  have hk : q ≠ k := by
    rintro rfl
    rw [eligibleHead_of_no_waiter (by rw [h.queue, hq])] at hw
    cases hw
  obtain ⟨hqueue, hothers, hmem⟩ := h
  exact ⟨(grantHead_queue_other u w hk).trans hqueue, fun p => (hothers p).trans ((granted_grantHead hw).queues p),
    (grantHead_mem u k w).trans hmem⟩

theorem grantsOthers_arbitrateIfFreed (s : State) {u : State} {q : QueueId} (ha : u.sys.arrivals = [])
    (hq : (u.queue q).pushWaiters = []) : GrantsOthers q u (s.arbitrateIfFreed u) :=
  arbitrateIfFreed_keeps (P := GrantsOthers q u) (fun _ _ _ h hw _ => h.grantHead hq hw)
    (fun _ ⟨hqueue, hothers, hmem⟩ => ⟨hqueue, hothers, hmem⟩) (fun _ ⟨hqueue, hothers, hmem⟩ => ⟨hqueue, hothers, hmem⟩)
    s ha ⟨rfl, fun _ => .refl _, rfl⟩

/-! ### What a STOP leaves (R95, R97) -/

/-- The waiters of the stopped queue have their answers (R83). -/
theorem stopActs_declined {s : State} {q : QueueId} {w : Waiter}
    (hw : w ∈ (s.queue q).pushWaiters ∨ w ∈ (s.queue q).popWaiters) {x : Transaction}
    (hx : s.transaction w.requester w.tag = some x) (hnone : x.answer = none) : Declined x .state (s.stopActs q) := by
  obtain ⟨hr, ht⟩ := transaction_named hx
  have hstands : StandsOrDeclined x .state (s.modifyQueue q Queue.stopping) := .inl (by rw [hr, ht]; exact hx)
  have hreleased : Declined x .state (stopReleased s q) :=
    (hstands.releaseAll_declined hnone hr ht (q := q) (by rw [modifyQueue_queue_same]; exact hw)).of_sys rfl
  rw [stopActs_eq]
  exact List.foldlRecOn _ _ hreleased (fun _ hv e _ => (hv.decline e.requester e.tag e.abandonedLog).of_sys rfl)

/-- The payload writes of the queue that wait at the arbiter are withdrawn (R42, R146). -/
theorem stopActs_mem (s : State) (q : QueueId) : (s.stopActs q).mem = { s.mem with
    waiting := s.mem.waiting.filter (fun r => match r.owner with | .payload k _ => decide (k ≠ q) | _ => true) } := by
  obtain ⟨-, hmem, -, -⟩ := resolveStopped_frame ((s.resolvedByStop q).map (stoppedIn s)) (stopReleased s q)
  have hreleased := (answersOnly_releaseAll (s.modifyQueue q Queue.stopping) q .state).mem
  have hpayload : ∀ r : MemRequest, (!r.payloadOf q) =
      (match r.owner with | .payload k _ => decide (k ≠ q) | _ => true) := by
    intro r
    unfold MemRequest.payloadOf
    cases r.owner with
    | payload k p => exact (decide_not ..).symm
    | _ => rfl
  rw [stopActs_eq, hmem, stopReleased, State.stopEntries, withMem_mem, hreleased]
  simp only [hpayload]
  rfl

/-- The bridge when the arbiter has run for the entries that a STOP of queue q has freed. -/
structure StopGranted (s : State) (q : QueueId) (v : State) : Prop where
  queue    : v.queue q = (s.queue q).inStopping
  others   : ∀ p, p ≠ q → PushesGranted (s.queue p) (v.queue p)
  mem      : v.mem = (s.stopActs q).mem
  declined : ∀ w, w ∈ (s.queue q).pushWaiters ∨ w ∈ (s.queue q).popWaiters →
    ∀ x, s.transaction w.requester w.tag = some x → x.answer = none → DeclinedBeforeGrants x .state v

/-- The stopped queue has no waiters any more, so that the grants are to other queues. -/
theorem stopGranted_arbitrateIfFreed {s : State} {q : QueueId} (ha : s.sys.arrivals = []) :
    StopGranted s q (s.arbitrateIfFreed (s.stopActs q)) := by
  have harr := (stopActs_arrivals s q).trans ha
  have hacted := stopActs_queue_same s q
  obtain ⟨hqueue, hothers, hmem⟩ := grantsOthers_arbitrateIfFreed s harr (q := q) (by rw [hacted])
  refine ⟨hqueue.trans hacted, fun p hp => stopActs_queue_other s hp ▸ hothers p, hmem, fun w hw x hx hn => ?_⟩
  exact arbitrateIfFreed_keeps (fun _ _ _ h _ _ => h.grantHead _ _) (fun _ h => h.of_sys rfl) (fun _ h => h.of_sys rfl) s harr
    (stopActs_declined hw hx hn).beforeGrants

/-- The stop test at the end of a STOP (R95, R96). -/
theorem testStop_of_inStopping {s : State} {q : QueueId} {x : Queue} (h : s.queue q = x.inStopping) :
    ((s.testStop q).entriesOf q ≠ [] ∨ x.popEntries ≠ [] → s.testStop q = s) ∧
      ((s.testStop q).entriesOf q = [] ∧ x.popEntries = [] → s.testStop q = s.setQueue q x.atStopped) := by
  have hcomplete := stopComplete_iff s q
  have hentries : (s.testStop q).entriesOf q = s.entriesOf q := by
    rw [State.entriesOf, (testStop_frame s q).2.2.2, State.entriesOf]
  rw [h, ownsNone_iff] at hcomplete
  rw [hentries]
  obtain ⟨hn, he⟩ | ⟨hc, he⟩ := testStop_cases s q
  · refine ⟨fun _ => he, fun hleft => ?_⟩
    rw [hcomplete.2 ⟨rfl, hleft⟩] at hn
    cases hn
  · obtain ⟨-, ho, hp⟩ := hcomplete.1 hc
    refine ⟨fun hleft => hleft.elim (absurd ho) (absurd hp), fun _ => ?_⟩
    rw [he, h]
    rfl

theorem testStop_queue_other (s : State) {p q : QueueId} (h : p ≠ q) : (s.testStop q).queue p = s.queue p := by
  obtain ⟨-, he⟩ | ⟨-, he⟩ := testStop_cases s q
  · rw [he]
  · rw [he, setQueue_queue_other s h]

theorem testStop_mem (s : State) (q : QueueId) : (s.testStop q).mem = s.mem := by
  obtain ⟨-, he⟩ | ⟨-, he⟩ := testStop_cases s q
  · rw [he]
  · rw [he]
    rfl

theorem actStop_of_stopped {s : State} {q : QueueId} (h : (s.queue q).state = .stopped) : s.act q .stop = ⟨s, .done, []⟩ := by
  simp only [State.act, State.actStop, h]

theorem actStop_of_stopping {s : State} {q : QueueId} (h : (s.queue q).state = .stopping) :
    s.act q .stop = ⟨s, .accepted, []⟩ := by
  simp only [State.act, State.actStop, h]

/-- Settles O16: `stopActs` leaves the queue in STOPPING without waiters, so the arbiter grants to other queues alone, and the stop
test decides between STOPPING and STOPPED. -/
theorem stopMovesTheQueue : Obligations.StopMovesTheQueue := by
  intro s q superseded ho ha _
  have hexec := exec_action ho
  refine ⟨fun hs => ?_, fun hs => ?_, fun hs => ?_⟩
  · rw [actStop_of_stopped (s := s.clearOutputs) hs] at hexec
    exact hexec.trans (congrArg _ (finish_executed _ _ _ rfl ho.2))
  · rw [actStop_of_stopping (s := s.clearOutputs) hs] at hexec
    exact hexec.trans (congrArg _ (finish_executed _ _ _ rfl ho.2))
  · obtain ⟨harr, -, hlink, -, -⟩ := startsGrants_stopQueue (s := s.clearOutputs) ha q
    rw [stopActs_arrivals] at harr
    rw [stopActs_link] at hlink
    rw [actStop_of_stoppable (s := s.clearOutputs) hs,
      finish_executed_of_no_arrival _ _ _ (harr.trans ha) (by rw [hlink]; exact ho.2)] at hexec
    obtain ⟨hqueue, hothers, hmem, hdeclined⟩ := stopGranted_arbitrateIfFreed (s := s.clearOutputs) (q := q) ha
    rw [stopActs_mem] at hmem
    rw [State.stopQueue] at hexec hlink
    generalize s.clearOutputs.arbitrateIfFreed (s.clearOutputs.stopActs q) = v at hexec hlink hqueue hothers hmem hdeclined
    obtain ⟨hgoes, harrives⟩ := testStop_of_inStopping hqueue
    refine ⟨_, hexec, fun hleft => ?_, fun hleft => ?_, fun p hp => ?_, fun w hw => ?_, ?_, ?_⟩
    · have he := hgoes hleft
      have haccepted : (v.testStop q).stopResult q = .accepted := by
        rw [he, State.stopResult, hqueue]
        rfl
      exact ⟨by rw [executed_queue, he]; exact hqueue, by rw [haccepted]; exact executed_link hlink _ _ _⟩
    · have he := harrives hleft
      have hdone : (v.testStop q).stopResult q = .done := by
        rw [he, State.stopResult, setQueue_queue_same]
        rfl
      exact ⟨by rw [executed_queue, he]; exact setQueue_queue_same v q _,
        by rw [hdone]; exact executed_link hlink _ _ _⟩
    · have hgranted := hothers p hp
      rw [executed_queue, testStop_queue_other v hp]
      generalize v.queue p = y at hgranted
      obtain ⟨gone, ws, position, sequence, -⟩ := hgranted
      exact ⟨rfl, rfl, rfl, rfl, rfl⟩
    · exact answersHeld_of_declinedBeforeGrants (fun x hx hn =>
        (hdeclined w hw x hx hn).of_sys ((executed_sys ..).trans (testStop_frame v q).1))
    · rw [executed_mem, testStop_mem, hmem]
      rfl
    · rw [executed_mem, testStop_mem, hmem]
      rfl

end Sys2Proof.Machine.Laws

namespace Sys2Proof.Machine.Laws

open Sys2Proof Sys2Proof.Machine

/-! ### What an event's work makes of a queue (R88, R96, R97, R99, R100) -/

/-- y is what work other than the queue commands may make of a queue x: its configuration stays; STOPPED stays; FAULTED stays,
with its reason and resume state; STOPPING stays, with the read and commit positions, or ends in STOPPED; and no queue moves to
STOPPING. -/
structure Follows (x y : Queue) : Prop where
  config   : y.config = x.config
  stopped  : x.state = .stopped → y.state = .stopped
  faulted  : x.state = .faulted → y.state = .faulted ∧ y.faultReason = x.faultReason ∧ y.resume = x.resume
  stopping : x.state = .stopping → (y.state = .stopping ∧ y.read = x.read ∧ y.commit = x.commit) ∨ y.state = .stopped
  moves    : x.state ≠ .stopping → y.state ≠ .stopping

theorem Follows.refl (x : Queue) : Follows x x := ⟨rfl, id, fun h => ⟨h, rfl, rfl⟩, fun h => .inl ⟨h, rfl, rfl⟩, id⟩

theorem Follows.trans {x y z : Queue} (h : Follows x y) (k : Follows y z) : Follows x z where
  config := k.config.trans h.config
  stopped hs := k.stopped (h.stopped hs)
  faulted hs := by
    obtain ⟨hy, hreason, hresume⟩ := h.faulted hs
    obtain ⟨hz, hreason', hresume'⟩ := k.faulted hy
    exact ⟨hz, hreason'.trans hreason, hresume'.trans hresume⟩
  stopping hs := by
    obtain ⟨hy, hread, hcommit⟩ | hy := h.stopping hs
    · exact (k.stopping hy).imp (fun ⟨hz, hread', hcommit'⟩ => ⟨hz, hread'.trans hread, hcommit'.trans hcommit⟩) id
    · exact .inr (k.stopped hy)
  moves hs := k.moves (h.moves hs)

/-- A change that leaves the state, the fault reason and the resume state, and the two positions of a STOPPING queue. -/
theorem Follows.of_state {x y : Queue} (hc : y.config = x.config) (hs : y.state = x.state)
    (hf : y.faultReason = x.faultReason) (hr : y.resume = x.resume)
    (hp : x.state = .stopping → y.read = x.read ∧ y.commit = x.commit) : Follows x y :=
  ⟨hc, fun h => hs.trans h, fun h => ⟨hs.trans h, hf, hr⟩, fun h => .inl ⟨hs.trans h, hp h⟩, fun h => hs ▸ h⟩

/-- A RUNNING or DRAINING queue may move to any state but STOPPING. -/
theorem Follows.of_active {x y : Queue} (h : x.state = .running ∨ x.state = .draining) (hc : y.config = x.config)
    (hs : y.state ≠ .stopping) : Follows x y := by
  refine ⟨hc, fun hx => ?_, fun hx => ?_, fun hx => ?_, fun _ => hs⟩ <;> simp [hx] at h

/-- A DRAINING or STOPPING queue may arrive at STOPPED (R93, R96). -/
theorem Follows.arrived {x : Queue} (h : x.state = .draining ∨ x.state = .stopping) : Follows x x.arrived := by
  refine ⟨rfl, fun _ => rfl, fun hx => ?_, fun _ => .inr rfl, fun _ => by simp [Queue.arrived]⟩
  simp [hx] at h

theorem PushesGranted.follows {x y : Queue} (h : PushesGranted x y) : Follows x y := by
  obtain ⟨gone, ws, p, n, -⟩ := h
  exact .of_state rfl rfl rfl rfl (fun _ => ⟨rfl, rfl⟩)

theorem Follows.withWaiters (x : Queue) (side : Side) (ws : List Waiter) : Follows x (x.withWaiters side ws) := by
  cases side <;> exact .of_state rfl rfl rfl rfl (fun _ => ⟨rfl, rfl⟩)

/-! ### What an event's work makes of the bridge -/

/-- t is reached from s by the work of an event other than its queue command: the soft-reset flag, the Window Table and the Class
Map stay; so do the requests at the port while a soft reset is in progress (R149); and each queue does as `Follows` says. -/
structure Course (s t : State) : Prop where
  softReset : t.link.softReset = s.link.softReset
  arrivals  : s.link.softReset = true → t.sys.arrivals = s.sys.arrivals
  windows   : t.windows = s.windows
  classes   : t.classes = s.classes
  queues    : ∀ q, Follows (s.queue q) (t.queue q)

@[refl] theorem Course.refl (s : State) : Course s s := ⟨rfl, fun _ => rfl, rfl, rfl, fun _ => .refl _⟩

theorem Course.trans {s t u : State} (h : Course s t) (k : Course t u) : Course s u where
  softReset := k.softReset.trans h.softReset
  arrivals hs := (k.arrivals (h.softReset.trans hs)).trans (h.arrivals hs)
  windows := k.windows.trans h.windows
  classes := k.classes.trans h.classes
  queues q := (h.queues q).trans (k.queues q)

/-- A change of the other blocks. -/
theorem Course.of_same {s t : State} (hl : t.link.softReset = s.link.softReset) (ha : t.sys.arrivals = s.sys.arrivals)
    (hw : t.windows = s.windows) (hc : t.classes = s.classes) (hq : t.queues = s.queues) : Course s t :=
  ⟨hl, fun _ => ha, hw, hc, fun q => by
    rw [State.queue, State.queue, hq]
    exact .refl _⟩

theorem Course.setQueue {s : State} {q : QueueId} {x : Queue} (h : Follows (s.queue q) x) : Course s (s.setQueue q x) := by
  refine ⟨rfl, fun _ => rfl, rfl, rfl, fun p => ?_⟩
  rw [setQueue_queue]
  split
  next hp => rw [hp]; exact h
  next => exact .refl _

theorem AnswersOnly.course {s t : State} (h : AnswersOnly s t) : Course s t :=
  .of_same (by rw [h.link]) h.arrivals h.windows h.classes h.queues

theorem Course.clearOutputs (s : State) : Course s s.clearOutputs := .of_same rfl rfl rfl rfl rfl

theorem Course.useFree (s : State) : Course s s.useFree := .of_same rfl rfl rfl rfl rfl

theorem Course.setEntry (s : State) (e : Entry) : Course s (s.setEntry e) := .of_same rfl rfl rfl rfl rfl

theorem Course.freeEntry (s : State) (e : Entry) : Course s (s.freeEntry e) := .of_same rfl rfl rfl rfl rfl

theorem Course.present (s : State) (rs : List MemRequest) : Course s (s.present rs) := .of_same rfl rfl rfl rfl rfl

theorem Course.setTransaction (s : State) (x : Transaction) : Course s (s.setTransaction x) := .of_same rfl rfl rfl rfl rfl

theorem Course.setWaiters (s : State) (q : QueueId) (side : Side) (ws : List Waiter) : Course s (s.setWaiters q side ws) :=
  .setQueue (.withWaiters _ side ws)

/-! ### Grants -/

theorem Course.grantPush (s : State) (q : QueueId) (r : Requester) (t : Tag) (L : BurstLength) :
    Course s (s.grantPush q r t L) := by
  have hentry : Course s (s.withReservations (s.reservations ++ [newEntry q (s.queue q) r t L])) := .of_same rfl rfl rfl rfl rfl
  have hqueue : ∀ u : State, Course u (u.modifyQueue q (fun x =>
      { x with reserve := advance x.reserve (recordWords L), nextSequence := x.nextSequence + 1 })) := fun u =>
    .setQueue (.of_state rfl rfl rfl rfl (fun _ => ⟨rfl, rfl⟩))
  exact (hentry.trans (hqueue _)).trans (answersOnly_setBeatMode _ _ _ _).course

theorem Course.grantHead (s : State) (q : QueueId) (w : Waiter) : Course s (s.grantHead q w) :=
  (Course.setWaiters s q .push _).trans (.grantPush _ _ _ _ _)

theorem Course.arbitrate (s : State) : Course s s.arbitrate :=
  arbitrate_keeps (P := Course s) (fun _ _ _ h _ _ => h.trans (.grantHead _ _ _)) (.refl s)

theorem Course.reexaminePush (s : State) (q : QueueId) : Course s (s.reexaminePush q) :=
  (reexaminePushFrom_spec (P := Course s) (fun _ _ h _ _ => h.trans (.grantHead _ _ _)) _ rfl (.refl s)).1

/-- A pop grant moves the read position: it is made in RUNNING and DRAINING alone (R73, R80). -/
theorem Course.grantPop {s : State} {q : QueueId} (h : (s.queue q).state ≠ .stopping) (r : Requester) (t : Tag)
    (L : BurstLength) : Course s (s.grantPop q r t L) := by
  refine (Course.setQueue (.of_state ?_ ?_ ?_ ?_ (fun hs => absurd hs h))).trans (.present _ _) <;>
    (unfold Queue.rearmBelow; split <;> rfl)

theorem Course.reexaminePopFrom {q : QueueId} (ws : List Waiter) {s : State} (h : (s.queue q).state ≠ .stopping) :
    Course s (s.reexaminePopFrom q ws) := by
  induction ws generalizing s with
  | nil => exact .refl s
  | cons w ws ih =>
    have hset := Course.setWaiters s q .pop ws
    unfold State.reexaminePopFrom
    split
    · have hgrant := hset.trans (.grantPop ((hset.queues q).moves h) w.requester w.tag w.length)
      exact hgrant.trans (ih ((hgrant.queues q).moves h))
    · split
      · have hdecline := hset.trans (answersOnly_declineQueue _ q w.requester w.tag .drained).course
        exact hdecline.trans (ih ((hdecline.queues q).moves h))
      · exact .refl s

theorem Course.reexaminePop (s : State) (q : QueueId) : Course s (s.reexaminePop q) := by
  by_cases h : (s.queue q).state = .running ∨ (s.queue q).state = .draining
  · rw [reexaminePop_active h]
    exact .reexaminePopFrom _ (fun hs => by simp [hs] at h)
  · rw [reexaminePop_inactive h]

/-! ### Joins, faults, arrivals and notices -/

theorem Course.join (s : State) (q : QueueId) (side : Side) (r : Requester) (t : Tag) (L : BurstLength) :
    Course s (s.join q side r t L) := by
  obtain h | ⟨w, -, h⟩ := join_cases s q side r t L
  · exact h.course
  · rw [h]
    exact (Course.setWaiters s q side _).trans (.of_same rfl rfl rfl rfl rfl)

theorem Course.faultTrigger (s : State) (q : QueueId) (reason : FaultReason) : Course s (s.faultTrigger q reason) := by
  obtain ⟨hs, h⟩ | ⟨-, h⟩ := faultTrigger_cases s q reason
  · rw [h]
    refine (Course.setQueue (.of_active hs ?_ ?_)).trans (answersOnly_enterFaulted s q reason).course
    · rw [enterFaulted_queue_same]
    · rw [enterFaulted_queue_same]
      exact QueueState.noConfusion
  · rw [h]

theorem Course.testDrain (s : State) (q : QueueId) : Course s (s.testDrain q) := by
  obtain ⟨-, h⟩ | ⟨hd, h⟩ := testDrain_cases s q
  · rw [h]
  · rw [h]
    exact .setQueue (.arrived (.inl ((drainComplete_iff s q).1 hd).1))

theorem Course.testStop (s : State) (q : QueueId) : Course s (s.testStop q) := by
  obtain ⟨-, h⟩ | ⟨hd, h⟩ := testStop_cases s q
  · rw [h]
  · rw [h]
    exact .setQueue (.arrived (.inr ((stopComplete_iff s q).1 hd).1))

theorem Course.noticeCheck (s : State) (q : QueueId) : Course s (s.noticeCheck q) := by
  obtain ⟨-, h⟩ | ⟨-, h⟩ := noticeCheck_cases s q
  · rw [h]
  · rw [h]
    refine (Course.setQueue ?_).trans (.present _ _)
    exact .of_state rfl rfl rfl rfl (fun _ => ⟨rfl, rfl⟩)

/-! ### Decisions and takings -/

theorem Course.latch (s : State) (q : QueueId) (r : Requester) (t : Tag) (fault : FaultReason) :
    Course s ((s.declineQueue q r t .latched).faultTrigger q fault) :=
  (answersOnly_declineQueue s q r t .latched).course.trans (.faultTrigger _ _ _)

theorem Course.decidePush (s : State) (q : QueueId) (r : Requester) (t : Tag) (L : BurstLength) :
    Course s (s.decidePush q r t L) := by
  have hdecline : ∀ reason, Course s (s.declineQueue q r t reason) := fun reason =>
    (answersOnly_declineQueue s q r t reason).course
  unfold State.decidePush
  dsimp only
  split
  · exact hdecline _
  · split
    · exact hdecline _
    · exact hdecline _
    · exact hdecline _
    · exact hdecline _
    · split
      · exact .join _ _ _ _ _ _
      · split
        · unfold State.applyFullPolicy
          split
          · exact .join _ _ _ _ _ _
          · exact (answersOnly_retry _ _ _ _ _).course
          · exact .latch _ _ _ _ _
        · split
          · exact .grantPush _ _ _ _ _
          · exact .join _ _ _ _ _ _

theorem Course.decidePopActive {s : State} {q : QueueId} (h : (s.queue q).state ≠ .stopping) (r : Requester) (t : Tag)
    (L : BurstLength) : Course s (s.decidePopActive q r t L) := by
  unfold State.decidePopActive
  dsimp only
  split
  · exact .join _ _ _ _ _ _
  · split
    · split
      · exact (answersOnly_declineQueue _ _ _ _ _).course
      · unfold State.applyEmptyPolicy
        split
        · exact .join _ _ _ _ _ _
        · exact (answersOnly_retry _ _ _ _ _).course
        · exact .latch _ _ _ _ _
    · split
      · exact .grantPop h _ _ _
      · exact .join _ _ _ _ _ _

theorem Course.decidePop (s : State) (q : QueueId) (r : Requester) (t : Tag) (L : BurstLength) :
    Course s (s.decidePop q r t L) := by
  have hdecline : ∀ reason, Course s (s.declineQueue q r t reason) := fun reason =>
    (answersOnly_declineQueue s q r t reason).course
  unfold State.decidePop
  dsimp only
  split
  · exact hdecline _
  · split
    · exact hdecline _
    · exact hdecline _
    · exact hdecline _
    next hs => exact .decidePopActive (by rw [hs]; decide) _ _ _
    next hs => exact .decidePopActive (by rw [hs]; decide) _ _ _

theorem Course.carry (s : State) (q : Request) (d : Decoded) : Course s (s.carry q d) := by
  unfold State.carry
  split
  · exact (answersOnly_declineAddress _ _ _).course
  · exact (answersOnly_declineAddress _ _ _).course
  · exact .decidePush _ _ _ _ _
  · exact .decidePop _ _ _ _ _
  · split
    · exact .present _ _
    · exact .refl _

theorem Course.take (s : State) (q : Request) : Course s (s.take q) := by
  have htrack : Course s (s.withSys { s.sys with tracker := s.sys.tracker ++ [newTransaction q (s.outcome q)] }) :=
    .of_same rfl rfl rfl rfl rfl
  exact htrack.trans (.carry _ _ _)

theorem canTake_of_softReset {s : State} (h : s.link.softReset = true) (q : Request) : s.canTake q = false := by
  simp [State.canTake, h]

/-- The port takes no request while a soft reset is in progress (R149). -/
theorem takeFrom_of_softReset {s : State} (h : s.link.softReset = true) (qs : List Request) : s.takeFrom qs = s := by
  cases qs with
  | nil => rfl
  | cons q qs => rw [State.takeFrom, canTake_of_softReset h, if_neg Bool.false_ne_true]

theorem takePresented_of_softReset {s : State} (h : s.link.softReset = true) : s.takePresented = s :=
  takeFrom_of_softReset h _

theorem Course.takeFrom (qs : List Request) (s : State) : Course s (s.takeFrom qs) := by
  induction qs generalizing s with
  | nil => exact .refl s
  | cons q qs ih =>
    unfold State.takeFrom
    split
    next hc =>
      have hflag := ((canTake_iff s q).1 hc).1
      have harrivals : Course s (s.withSys { s.sys with arrivals := qs }) :=
        ⟨rfl, fun hs => absurd (hflag.symm.trans hs) Bool.false_ne_true, rfl, rfl, fun _ => .refl _⟩
      exact (harrivals.trans (.take _ _)).trans (ih _)
    next => exact .refl s

theorem Course.takePresented (s : State) : Course s s.takePresented := .takeFrom _ s

/-! ### Freed entries and commit -/

theorem Course.entryFreed (s : State) : Course s s.entryFreed := by
  obtain ⟨-, h⟩ | ⟨-, h | h | ⟨-, h⟩ | ⟨-, h⟩⟩ := entryFreed_cases s
  · rw [h]
  · rw [h]
    exact .arbitrate s
  · rw [h]
    exact (Course.useFree s).trans (.arbitrate _)
  · rw [h]
    exact ((Course.useFree s).trans (.takePresented _)).trans (.arbitrate _)
  · rw [h]
    exact .of_same rfl rfl rfl rfl rfl

theorem Course.arbitrateIfFreed (s t : State) : Course t (s.arbitrateIfFreed t) := by
  obtain ⟨-, h⟩ | ⟨-, h⟩ := arbitrateIfFreed_cases s t
  · rw [h]
    exact .entryFreed t
  · rw [h]

/-- A commit advance moves the commit position: it is attempted outside STOPPING alone (R33, R42). -/
theorem Course.passClosed {q : QueueId} (n : Nat) {s : State} (h : (s.queue q).state ≠ .stopping) :
    Course s (s.passClosed q n) := by
  induction n generalizing s with
  | zero => exact .refl s
  | succ n ih =>
    unfold State.passClosed
    split
    · exact .refl s
    next e _ =>
      split
      · have hpass := (Course.freeEntry s e).trans (.setQueue (q := q) (x :=
          { s.queue q with commit := advance e.start (recordWords e.words) })
          (.of_state rfl rfl rfl rfl (fun hs => absurd hs h)))
        exact hpass.trans (ih ((hpass.queues q).moves h))
      · exact .refl s

theorem Course.commitAttempt {s : State} {q : QueueId} (h : (s.queue q).state ≠ .stopping) : Course s (s.commitAttempt q) := by
  unfold State.commitAttempt
  split
  · exact ((((Course.passClosed _ h).trans (.noticeCheck _ _)).trans (.reexaminePop _ _)).trans (.testDrain _ _)).trans
      (.entryFreed _)
  · exact .refl s

theorem Course.lastEntryGone (s : State) (q : QueueId) : Course s (s.lastEntryGone q) := by
  unfold State.lastEntryGone
  split
  · exact (Course.reexaminePop _ _).trans (.testDrain _ _)
  · exact .refl s

/-! ### Resolution, beats and completions of record writes -/

theorem Course.rewindGrants (s : State) (q : QueueId) : Course s (s.rewindGrants q) := by
  unfold State.rewindGrants
  split
  · exact .refl s
  · split
    · exact ((Course.useFree s).trans (.entryFreed _)).trans (.reexaminePush _ _)
    · exact ((Course.useFree s).trans (.reexaminePush _ _)).trans (.entryFreed _)

theorem Course.rewind {s : State} {e : Entry} (h : (s.queue e.queue).state ≠ .stopping) : Course s (s.rewind e) := by
  have hback := ((Course.freeEntry s e).trans (.setQueue (q := e.queue) (x :=
    { s.queue e.queue with reserve := e.start, nextSequence := e.sequence })
    (.of_state rfl rfl rfl rfl (fun _ => ⟨rfl, rfl⟩)))).trans (.rewindGrants _ e.queue)
  exact (hback.trans (.commitAttempt ((hback.queues _).moves h))).trans (.lastEntryGone _ _)

theorem Course.issueFiller (s : State) (e : Entry) : Course s (s.issueFiller e) := (Course.setEntry s _).trans (.present _ _)

/-- What frees an entry of a STOPPING queue. -/
theorem Course.freed (s : State) (e : Entry) (q : QueueId) : Course s (((s.freeEntry e).entryFreed).testStop q) :=
  ((Course.freeEntry s e).trans (.entryFreed _)).trans (.testStop _ _)

theorem Course.resolve (s : State) (e : Entry) : Course s (s.resolve e) := by
  have hdecline := (answersOnly_decline s e.requester e.tag e.abandonedLog).course
  unfold State.resolve
  dsimp only
  split
  · exact hdecline.trans (.freed _ _ _)
  next hs =>
    split
    · exact hdecline.trans (.rewind ((hdecline.queues _).moves hs))
    · exact hdecline.trans (.issueFiller _ _)

theorem Course.settleEntry (s : State) (e : Entry) : Course s (s.settleEntry e) := by
  unfold State.settleEntry
  split
  · exact (Course.setEntry s e).trans (.resolve _ _)
  · exact .setEntry s e

theorem Course.handBeat (s : State) (e : Entry) (b : Beat) : Course s (s.handBeat e b) := by
  unfold State.handBeat
  split
  · split
    · exact .settleEntry _ _
    · dsimp only
      split
      · exact (Course.setEntry s _).trans (.present _ _)
      · exact .setEntry _ _
  · exact .settleEntry _ _
  · exact .refl s

theorem Course.afterPayload (s : State) (e : Entry) : Course s (s.afterPayload e) := by
  unfold State.afterPayload
  split
  · split
    · exact (Course.setEntry s _).trans (.present _ _)
    · exact .settleEntry _ _
  · exact .setEntry _ _

theorem Course.payloadCompletes (s : State) (e : Entry) (status : MemStatus) : Course s (s.payloadCompletes e status) := by
  unfold State.payloadCompletes
  dsimp only
  split
  · exact .afterPayload _ _
  · exact .afterPayload _ _
  · exact .settleEntry _ _
  · exact .refl s

theorem Course.headerOk (s : State) (e : Entry) : Course s (s.headerOk e) := by
  unfold State.headerOk
  split
  · exact (answersOnly_answerStored s e).course.trans (.freed _ _ _)
  next hs =>
    have hstored := (Course.setEntry s { e with state := .closed }).trans (answersOnly_answerStored _ e).course
    exact hstored.trans (.commitAttempt ((hstored.queues _).moves hs))

theorem Course.headerError (s : State) (e : Entry) : Course s (s.headerError e) := by
  unfold State.headerError
  split
  · exact (answersOnly_declineHeader s e).course.trans (.freed _ _ _)
  · exact ((Course.setEntry s _).trans (answersOnly_declineHeader _ e).course).trans (.faultTrigger _ _ _)

theorem Course.headerCompletes (s : State) (e : Entry) (status : MemStatus) : Course s (s.headerCompletes e status) := by
  unfold State.headerCompletes
  split
  · exact .headerOk s e
  · exact .headerError s e
  · exact .refl s

/-! ### Pops, pass-through accesses and notices -/

theorem Course.removePop (s : State) (q : QueueId) (e : PopEntry) : Course s (s.removePop q e) := by
  have hremove : Course s (s.modifyQueue q (fun x => x.removePop e)) :=
    .setQueue (.of_state rfl rfl rfl rfl (fun _ => ⟨rfl, rfl⟩))
  unfold State.removePop
  dsimp only
  refine ((Course.trans ?_ (.reexaminePop _ _)).trans (.testDrain _ _)).trans (.testStop _ _)
  split
  · exact hremove
  · exact hremove.trans (.reexaminePush _ _)

theorem Course.afterRead (s : State) (q : QueueId) (e : PopEntry) : Course s (s.afterRead q e) := by
  have hset : Course s (s.setPopEntry q e) := .setQueue (.of_state rfl rfl rfl rfl (fun _ => ⟨rfl, rfl⟩))
  unfold State.afterRead
  split
  · refine hset.trans ?_
    unfold State.answerPop
    split
    · exact ((answersOnly_decline _ _ _ _).course.trans (.faultTrigger _ _ _)).trans (.removePop _ _ _)
    · exact (answersOnly_answerOk _ _ _ _).course.trans (.removePop _ _ _)
  · exact hset

theorem Course.noteMissing (s : State) (words : Nat) (data : List Word) : Course s (s.noteMissing words data) := by
  unfold State.noteMissing
  split
  · exact .useFree s
  · exact .refl s

theorem Course.readCompletes (s : State) (q : QueueId) (e : PopEntry) (first words : Nat) (status : MemStatus)
    (data : List Word) : Course s (s.readCompletes q e first words status data) := by
  cases status with
  | ok => exact (Course.noteMissing _ _ _).trans (.afterRead _ _ _)
  | error => exact .afterRead _ _ _

theorem Course.passThroughCompletes (s : State) (x : Transaction) (words : Nat) (status : MemStatus) (data : List Word) :
    Course s (s.passThroughCompletes x words status data) := by
  unfold State.passThroughCompletes
  split
  · exact (answersOnly_declineAddress _ _ _).course
  · split
    · exact (answersOnly_answerOk _ _ _ _).course
    · exact (Course.noteMissing _ _ _).trans (answersOnly_answerOk _ _ _ _).course

theorem Course.noticeCompletes (s : State) (q : QueueId) (r : NoticeRecord) (status : MemStatus) :
    Course s (s.noticeCompletes q r status) := by
  have herase : Course s (s.modifyQueue q (fun x => { x with notices := x.notices.erase r })) :=
    .setQueue (.of_state rfl rfl rfl rfl (fun _ => ⟨rfl, rfl⟩))
  cases status with
  | ok => exact herase.trans (.noticeCheck _ _)
  | error => exact (herase.trans (answersOnly_appendLog _ _).course).trans (.noticeCheck _ _)

theorem Course.route (s : State) (r : MemRequest) (status : MemStatus) (data : List Word) :
    Course s (s.route r status data) := by
  unfold State.route
  split
  · split
    · exact .refl s
    · exact .headerCompletes _ _ _
  · split
    · exact .refl s
    · exact .payloadCompletes _ _ _
  · split
    · exact .refl s
    · exact .readCompletes _ _ _ _ _ _ _
  · split
    · exact .refl s
    · exact .passThroughCompletes _ _ _ _ _
  · exact .noticeCompletes _ _ _ _

theorem Course.passage (s : State) (n : Nat) : Course s (s.passage n) := by
  unfold State.passage
  split
  · split
    · exact .of_same rfl rfl rfl rfl rfl
    · exact .refl s
  · exact .refl s

/-! ### Beats and expiries -/

theorem Course.offerBeat (s : State) (r : Requester) (t : Tag) (b : Beat) : Course s (s.offerBeat r t b) := by
  unfold State.offerBeat
  split
  · exact .refl s
  · unfold State.takeBeat
    split
    · dsimp only
      split
      · exact .refl s
      · exact .refl s
      · unfold State.gatherBeat
        dsimp only
        split
        · split
          · exact (Course.setTransaction s _).trans (.present _ _)
          · exact .setTransaction s _
        · exact .setTransaction s _
      · unfold State.handOver
        split
        · exact .setTransaction s _
        · exact (Course.setTransaction s _).trans (.handBeat _ _ _)
      · unfold State.dropBeat
        split
        · split
          · exact .of_same rfl rfl rfl rfl rfl
          · exact .setTransaction s _
        · exact .setTransaction s _
    · exact .refl s

theorem Course.expireHeld (s : State) (h : HeldRequest) : Course s (s.expireHeld h) := by
  have hleave : Course s (s.leave h) := (Course.setWaiters s h.queue h.side _).trans (.of_same rfl rfl rfl rfl rfl)
  have hretry := hleave.trans (answersOnly_retry _ h.queue h.waiter.requester h.waiter.tag .timeout).course
  unfold State.expireHeld
  dsimp only
  split
  · refine hretry.trans ?_
    cases h.side with
    | push => exact .reexaminePush _ _
    | pop => exact .reexaminePop _ _
  · exact hretry

end Sys2Proof.Machine.Laws

namespace Sys2Proof.Machine.Laws

open Sys2Proof Sys2Proof.Machine

/-! ### Queue commands, by the queue states they may change (R91, R95, R101) -/

/-- As `Follows`, but that a STOPPED queue may be started where `starts`, and a FAULTED queue may be stopped or have its fault
cleared where `ends`; the configuration may be any. -/
structure FollowsBut (starts ends : Prop) (x y : Queue) : Prop where
  stopped  : ¬starts → x.state = .stopped → y.state = .stopped
  faulted  : ¬ends → x.state = .faulted → y.state = .faulted ∧ y.faultReason = x.faultReason ∧ y.resume = x.resume
  stopping : x.state = .stopping → (y.state = .stopping ∧ y.read = x.read ∧ y.commit = x.commit) ∨ y.state = .stopped

theorem Follows.but {x y : Queue} (h : Follows x y) (starts ends : Prop) : FollowsBut starts ends x y :=
  ⟨fun _ => h.stopped, fun _ => h.faulted, h.stopping⟩

theorem FollowsBut.mono {starts ends starts' ends' : Prop} {x y : Queue} (h : FollowsBut starts ends x y)
    (hs : starts → starts') (he : ends → ends') : FollowsBut starts' ends' x y :=
  ⟨fun hn => h.stopped (fun k => hn (hs k)), fun hn => h.faulted (fun k => hn (he k)), h.stopping⟩

/-- What follows a queue command starts no queue. -/
theorem FollowsBut.trans {starts ends : Prop} {x y z : Queue} (h : FollowsBut starts ends x y)
    (k : FollowsBut False ends y z) : FollowsBut starts ends x z where
  stopped hn hs := k.stopped id (h.stopped hn hs)
  faulted hn hs := by
    obtain ⟨hy, hreason, hresume⟩ := h.faulted hn hs
    obtain ⟨hz, hreason', hresume'⟩ := k.faulted hn hy
    exact ⟨hz, hreason'.trans hreason, hresume'.trans hresume⟩
  stopping hs := by
    obtain ⟨hy, hread, hcommit⟩ | hy := h.stopping hs
    · exact (k.stopping hy).imp (fun ⟨hz, hread', hcommit'⟩ => ⟨hz, hread'.trans hread, hcommit'.trans hcommit⟩) id
    · exact .inr (k.stopped id hy)

/-- A change of one queue, the others standing. -/
theorem followsBut_of_other {starts ends : Prop} {s t : State} {q : QueueId} (ho : ∀ p, p ≠ q → t.queue p = s.queue p)
    (hq : FollowsBut starts ends (s.queue q) (t.queue q)) (p : QueueId) : FollowsBut starts ends (s.queue p) (t.queue p) := by
  by_cases hp : p = q
  · rwa [hp]
  · rw [ho p hp]
    exact (Follows.refl _).but _ _

theorem Course.drainQueue {s : State} {q : QueueId} (h : (s.queue q).state = .running) : Course s (s.drainQueue q) := by
  have hstarted : Course s (drainStarted s q) :=
    (Course.setQueue (q := q) (x := { s.queue q with state := .draining, pushWaiters := [] })
      (.of_active (.inl h) rfl QueueState.noConfusion)).trans (answersOnly_drainStarted s q).course
  rw [drainQueue_eq]
  refine Course.trans ?_ (.testDrain _ _)
  split
  · exact hstarted.trans (.reexaminePop _ _)
  · exact hstarted

theorem Course.flushQueue {s : State} {q : QueueId} (h : (s.queue q).state ≠ .stopping) : Course s (s.flushQueue q) := by
  have hflushed : Course s (s.modifyQueue q Queue.flushed) :=
    .setQueue (.of_state rfl rfl rfl rfl (fun hs => absurd hs h))
  unfold State.flushQueue
  dsimp only
  refine Course.trans ?_ (.lastEntryGone _ _)
  split
  · exact hflushed.trans (.reexaminePush _ _)
  · exact hflushed

/-- What a CLEAR-FAULT does once its queue has left FAULTED (R101). -/
theorem Course.afterCleared {s : State} {q : QueueId} (h : (s.queue q).state ≠ .stopping) :
    Course s ((((s.reissueFailed q).commitAttempt q).noticeCheck q).testDrain q) := by
  have hreissued : Course s (s.reissueFailed q) :=
    List.foldlRecOn _ _ (Course.refl s) (fun _ hu _ _ => hu.trans (.issueFiller _ _))
  exact ((hreissued.trans (.commitAttempt ((hreissued.queues q).moves h))).trans (.noticeCheck _ _)).trans (.testDrain _ _)

theorem cleared_state_ne_stopping (x : Queue) : x.cleared.state ≠ .stopping := by
  unfold Queue.cleared ResumeState.toState
  cases x.resume <;> exact QueueState.noConfusion

/-- A STOP's own steps move a queue that is neither STOPPED nor STOPPING (R95). -/
theorem followsBut_stopActs {s : State} {q : QueueId} (h : (s.queue q).state ≠ .stopped) (h' : (s.queue q).state ≠ .stopping)
    (p : QueueId) : FollowsBut False True (s.queue p) ((s.stopActs q).queue p) :=
  followsBut_of_other (fun _ hp => stopActs_queue_other s hp)
    ⟨fun _ hs => absurd hs h, fun hn => absurd trivial hn, fun hs => absurd hs h'⟩ p

/-- No queue action touches the soft-reset flag, and each changes the queue states that are its own to change. -/
theorem act_effect (s : State) (q : QueueId) (a : QueueAction) :
    (s.act q a).state.link.softReset = s.link.softReset ∧
      ∀ p, FollowsBut (a = .start) (a = .stop ∨ a = .clearFault) (s.queue p) ((s.act q a).state.queue p) := by
  have hcourse : ∀ {t}, Course s t → t.link.softReset = s.link.softReset ∧
      ∀ p, FollowsBut (a = .start) (a = .stop ∨ a = .clearFault) (s.queue p) (t.queue p) :=
    fun h => ⟨h.softReset, fun p => (h.queues p).but _ _⟩
  cases a with
  | start =>
    unfold State.act State.actStart
    dsimp only
    split
    next hs =>
      split
      · exact hcourse (.refl s)
      · refine ⟨rfl, followsBut_of_other (fun p hp => modifyQueue_queue_other s hp _) ?_⟩
        exact ⟨fun hn => absurd rfl hn, fun _ hf => QueueState.noConfusion (hs.symm.trans hf),
          fun hf => QueueState.noConfusion (hs.symm.trans hf)⟩
    · exact hcourse (.refl s)
  | drain =>
    unfold State.act State.actDrain
    dsimp only
    split
    next hs => exact hcourse (.drainQueue hs)
    · exact hcourse (.refl s)
    · exact hcourse (.refl s)
  | stop =>
    unfold State.act State.actStop
    dsimp only
    split
    · exact hcourse (.refl s)
    · exact hcourse (.refl s)
    next hs hs' =>
      have hrest := (Course.arbitrateIfFreed s (s.stopActs q)).trans (.testStop _ q)
      exact ⟨hrest.softReset.trans (by rw [stopActs_link]), fun p =>
        ((followsBut_stopActs hs hs' p).trans ((hrest.queues p).but _ _)).mono False.elim (fun _ => .inl rfl)⟩
  | flush =>
    unfold State.act State.actFlush
    dsimp only
    split
    · exact hcourse (.refl s)
    · exact hcourse (.refl s)
    next hs => exact hcourse (.flushQueue hs)
  | clearFault =>
    unfold State.act State.actClearFault
    dsimp only
    split
    next hs =>
      have hrest := Course.afterCleared (s := s.modifyQueue q Queue.cleared) (q := q)
        (by rw [modifyQueue_queue_same]; exact cleared_state_ne_stopping _)
      refine ⟨hrest.softReset, fun p => FollowsBut.trans ?_ ((hrest.queues p).but _ _)⟩
      exact followsBut_of_other (fun p hp => modifyQueue_queue_other s hp _)
        ⟨fun _ hf => QueueState.noConfusion (hs.symm.trans hf), fun hn => absurd (.inr rfl) hn,
          fun hf => QueueState.noConfusion (hs.symm.trans hf)⟩ p
    · exact hcourse (.refl s)
  | armNotice =>
    unfold State.act State.actArmNotice
    dsimp only
    split
    · exact hcourse (.refl s)
    · refine hcourse (Course.trans (.setQueue ?_) (.noticeCheck _ _))
      exact .of_state rfl rfl rfl rfl (fun _ => ⟨rfl, rfl⟩)

/-! ### The execution of a pending request (R155, R168) -/

/-- Nothing but the link changes, or the command has its effect: during a soft reset READ-STATUS alone. -/
theorem execute_cases (s : State) (c : Command) (f : State → List Byte → Executed) :
    (∃ l, l.softReset = s.link.softReset ∧ s.execute c f = s.withLink l) ∨
      ((s.link.softReset = false ∨ c = .readStatus) ∧ ∃ p l, s.link.request = some p ∧
        l.softReset = (f s p.payload).state.link.softReset ∧ s.execute c f = (f s p.payload).state.withLink l) := by
  unfold State.execute
  split
  · exact .inl ⟨s.link, rfl, rfl⟩
  next p hp =>
    split
    next hc =>
      unfold State.executeWith
      split
      · exact .inl ⟨s.link.respond p .busy [], rfl, rfl⟩
      next hn =>
        refine .inr ⟨?_, p, (f s p.payload).state.link.respond p (f s p.payload).result (f s p.payload).payload, hp, rfl, rfl⟩
        rw [not_and, not_not, hc] at hn
        cases hflag : s.link.softReset with
        | false => exact .inl rfl
        | true => exact .inr (hn hflag)
    · exact .inl ⟨s.link, rfl, rfl⟩

/-- A payload that carries an action has its effect on some queue (R164). -/
theorem queueCommandEffect_of_carries {a : QueueAction} {payload : List Byte} (h : carriesAction a payload = true) (s : State) :
    ∃ q, queueCommandEffect s payload = s.act q a := by
  rw [carriesAction, Bool.and_eq_true, decide_eq_true_eq, decide_eq_true_eq] at h
  obtain ⟨hq, ha⟩ := h
  refine ⟨⟨field payload 0 1, hq⟩, ?_⟩
  simp only [queueCommandEffect, indexOf, dif_pos hq, ha]

theorem queueCommandEffect_cases (s : State) (payload : List Byte) :
    (queueCommandEffect s payload).state = s ∨ ∃ q a, queueCommandEffect s payload = s.act q a := by
  unfold queueCommandEffect
  split
  · exact .inl rfl
  next q _ =>
    split
    · exact .inl rfl
    next a _ => exact .inr ⟨q, a, rfl⟩

/-- The row of an action changes nothing but the link, or carries its action out on some queue. -/
theorem executeAction_cases (s : State) (a : QueueAction) :
    (∃ l, l.softReset = s.link.softReset ∧ s.executeAction a = s.withLink l) ∨
      (s.link.softReset = false ∧ ∃ q l, l.softReset = s.link.softReset ∧
        s.executeAction a = (s.act q a).state.withLink l) := by
  unfold State.executeAction
  split
  · exact .inl ⟨s.link, rfl, rfl⟩
  next p hp =>
    split
    next hc =>
      obtain h | ⟨hr, p', l, hp', hl, h⟩ := execute_cases s .queueCommand queueCommandEffect
      · exact .inl h
      · obtain rfl : p = p' := Option.some.inj (hp.symm.trans hp')
        obtain ⟨q, ha⟩ := queueCommandEffect_of_carries hc s
        rw [ha] at hl h
        exact .inr ⟨hr.resolve_right Command.noConfusion, q, l, hl.trans (act_effect s q a).1, h⟩
    · exact .inl ⟨s.link, rfl, rfl⟩

/-- Outside a soft reset the commands about queues leave the soft-reset flag and the states that are not theirs to change. -/
theorem queueCommand_effect (s : State) (payload : List Byte) :
    (queueCommandEffect s payload).state.link.softReset = s.link.softReset ∧
      ∀ p, FollowsBut True True (s.queue p) ((queueCommandEffect s payload).state.queue p) := by
  obtain h | ⟨q, a, h⟩ := queueCommandEffect_cases s payload
  · rw [h]
    exact ⟨rfl, fun p => (Follows.refl _).but _ _⟩
  · obtain ⟨hl, hq⟩ := act_effect s q a
    rw [h]
    exact ⟨hl, fun p => (hq p).mono (fun _ => trivial) (fun _ => trivial)⟩

/-! ### The soft reset (R106, R167) -/

/-- A soft reset stops queues, and starts none. -/
theorem followsBut_softResetStop (s : State) (q p : QueueId) :
    FollowsBut False True (s.queue p) ((s.softResetStop q).queue p) := by
  obtain ⟨-, h⟩ | ⟨⟨hs, hs'⟩, h⟩ := softResetStop_cases s q
  · rw [h]
    exact (Follows.refl _).but _ _
  · rw [h]
    exact (followsBut_stopActs hs hs' p).trans (((Course.testStop _ q).queues p).but _ _)

theorem softResetStop_link (s : State) (q : QueueId) : (s.softResetStop q).link = s.link := by
  obtain ⟨-, h⟩ | ⟨-, h⟩ := softResetStop_cases s q
  · rw [h]
  · rw [h, (testStop_frame _ q).2.1, stopActs_link]

/-- After the STOPs of a soft reset every queue is STOPPING or STOPPED. -/
theorem softResetStops_halted (s : State) (q : QueueId) :
    (s.softResetStops.queue q).state = .stopping ∨ (s.softResetStops.queue q).state = .stopped := by
  have hkeeps : ∀ {x y : Queue}, FollowsBut False True x y → x.state = .stopping ∨ x.state = .stopped →
      y.state = .stopping ∨ y.state = .stopped := fun h hx =>
    hx.elim (fun hs => (h.stopping hs).imp And.left id) (fun hs => .inr (h.stopped id hs))
  refine foldl_reaches (P := fun _ => True) (A := fun u => (u.queue q).state = .stopping ∨ (u.queue q).state = .stopped)
    (fun _ _ _ h => h) (fun u p hu => hkeeps (followsBut_softResetStop u p q) hu) (a := q) (fun u _ => ?_) trivial
    (List.mem_finRange q)
  obtain ⟨hs, h⟩ | ⟨-, h⟩ := softResetStop_cases u q
  · rw [h]
    exact hs.symm
  · rw [h]
    exact hkeeps (((Course.testStop _ q).queues q).but _ _) (.inl (by rw [stopActs_queue_same]))

/-- The effect of SOFT-RESET: the flag is set, every queue is STOPPING or STOPPED, and none has been started. -/
theorem softReset_effect (s : State) (payload : List Byte) :
    (softResetEffect s payload).state.link.softReset = true ∧
      (∀ p, FollowsBut False True (s.queue p) ((softResetEffect s payload).state.queue p)) ∧
      ∀ p, ((softResetEffect s payload).state.queue p).state = .stopping ∨
        ((softResetEffect s payload).state.queue p).state = .stopped := by
  have hrest := Course.arbitrateIfFreed (s.withLink { s.link with softReset := true })
    (s.withLink { s.link with softReset := true }).softResetStops
  have hstops : ∀ p, FollowsBut False True (s.queue p)
      ((s.withLink { s.link with softReset := true }).softResetStops.queue p) := fun p =>
    List.foldlRecOn (motive := fun u : State => FollowsBut False True (s.queue p) (u.queue p)) _ _
      ((Follows.refl _).but _ _) (fun u hu q _ => hu.trans (followsBut_softResetStop u q p))
  have hflag : (s.withLink { s.link with softReset := true }).softResetStops.link = { s.link with softReset := true } :=
    List.foldlRecOn (motive := fun u : State => u.link = { s.link with softReset := true }) _ _ rfl
      (fun u hu q _ => (softResetStop_link u q).trans hu)
  refine ⟨hrest.softReset.trans (by rw [hflag]), fun p => (hstops p).trans ((hrest.queues p).but _ _), fun p => ?_⟩
  obtain hs | hs := softResetStops_halted (s.withLink { s.link with softReset := true }) p
  · exact ((hrest.queues p).stopping hs).imp And.left id
  · exact .inr ((hrest.queues p).stopped hs)

/-! ### The kinds of commands -/

/-- t differs from s in no queue's state, fault reason, resume state, read or commit position, nor in the soft-reset flag, nor in
whether a transaction is tracked. -/
structure Unmoved (s t : State) : Prop where
  softReset : t.link.softReset = s.link.softReset
  tracker   : t.sys.tracker = [] ↔ s.sys.tracker = []
  queues    : ∀ q, (t.queue q).state = (s.queue q).state ∧ (t.queue q).faultReason = (s.queue q).faultReason ∧
    (t.queue q).resume = (s.queue q).resume ∧ (t.queue q).read = (s.queue q).read ∧ (t.queue q).commit = (s.queue q).commit

theorem Unmoved.of_queues {s t : State} (hl : t.link.softReset = s.link.softReset) (ht : t.sys.tracker = s.sys.tracker)
    (hq : t.queues = s.queues) : Unmoved s t :=
  ⟨hl, by rw [ht], fun q => by
    rw [State.queue, State.queue, hq]
    exact ⟨rfl, rfl, rfl, rfl, rfl⟩⟩

theorem Unmoved.followsBut {s t : State} (h : Unmoved s t) (q : QueueId) : FollowsBut False False (s.queue q) (t.queue q) := by
  obtain ⟨hs, hf, hr, hread, hcommit⟩ := h.queues q
  exact ⟨fun _ hx => hs.trans hx, fun _ hx => ⟨hs.trans hx, hf, hr⟩, fun hx => .inl ⟨hs.trans hx, hread, hcommit⟩⟩

/-- The ways a command changes the bridge, as far as the states of its queues and a soft reset in progress go. -/
inductive Event (s : State) : Instr → State → Prop
  /-- Work already taken goes on, to the end of the event. -/
  | work {c : Instr} {w : State} : Course s w → Event s c w.finish
  /-- No queue's state changes: the link's periods, the table commands, and work that has no occasion. -/
  | quiet {c : Instr} {t : State} : Unmoved s t → Event s c t
  | takes (q : Request) : Event s (.takeRequest q) (s.clearOutputs.presentAndArbitrate q)
  | action (a : QueueAction) : Event s a.row (s.clearOutputs.executeAction a).finish
  | queueCommand : Event s .queueCommand (s.clearOutputs.execute .queueCommand queueCommandEffect).finish
  | softReset : Event s .softReset (s.clearOutputs.execute .softReset softResetEffect).finish
  | powerOn (p : Bool) : Event s (.powerOnReset p) (s.powerOn p)

/-- No select period touches the soft-reset flag. -/
theorem period_softReset (l : Link) (bits : List Bool) : (l.period bits).softReset = l.softReset := by
  have haccept : ∀ (m : Link) code payload, (m.accept code payload).softReset = m.softReset := by
    intro m code payload
    unfold Link.accept
    split
    · rfl
    · split
      · rfl
      · split <;> rfl
  have hjudge : ∀ m : Link, m.judge.softReset = m.softReset := by
    intro m
    unfold Link.judge
    split
    · split
      · rfl
      · exact haccept _ _ _
    · rfl
  unfold Link.period
  split
  · rfl
  · split
    · rfl
    · split
      · rfl
      · exact hjudge _

theorem fetchPeriod_softReset (l : Link) (clocks : Nat) : (l.fetchPeriod clocks).softReset = l.softReset := by
  unfold Link.fetchPeriod
  split <;> rfl

theorem unmoved_passage (s : State) (n : Nat) : Unmoved s (s.clearOutputs.passage n) := by
  unfold State.passage
  split
  · split
    · exact .of_queues rfl rfl rfl
    · exact .of_queues rfl rfl rfl
  · exact .of_queues rfl rfl rfl

/-- A row whose command's effect moves nothing. -/
theorem unmoved_execute (s : State) (c : Command) {f : State → List Byte → Executed}
    (hf : ∀ payload, Unmoved s (f s.clearOutputs payload).state) : Unmoved s (s.clearOutputs.execute c f) := by
  obtain ⟨l, hl, h⟩ | ⟨-, p, l, -, hl, h⟩ := execute_cases s.clearOutputs c f
  · rw [h]
    exact .of_queues hl rfl rfl
  · obtain ⟨hflag, htracker, hqueues⟩ := hf p.payload
    rw [h]
    exact ⟨hl.trans hflag, htracker, hqueues⟩

/-! The effects of the table and log commands, and of READ-QUEUE. -/

theorem unmoved_readQueue (s : State) (payload : List Byte) : Unmoved s (readQueueEffect s.clearOutputs payload).state := by
  unfold readQueueEffect
  split <;> exact .of_queues rfl rfl rfl

theorem unmoved_readWindow (s : State) (payload : List Byte) : Unmoved s (readWindowEffect s.clearOutputs payload).state := by
  unfold readWindowEffect
  split <;> exact .of_queues rfl rfl rfl

theorem unmoved_writeWindow (s : State) (payload : List Byte) : Unmoved s (writeWindowEffect s.clearOutputs payload).state := by
  unfold writeWindowEffect
  split
  · exact .of_queues rfl rfl rfl
  · split <;> exact .of_queues rfl rfl rfl

theorem unmoved_writeClass (s : State) (payload : List Byte) : Unmoved s (writeClassEffect s.clearOutputs payload).state := by
  unfold writeClassEffect
  split
  · exact .of_queues rfl rfl rfl
  · split <;> exact .of_queues rfl rfl rfl

theorem unmoved_readLog (s : State) (payload : List Byte) : Unmoved s (readLogEffect s.clearOutputs payload).state := by
  unfold readLogEffect
  split <;> exact .of_queues rfl rfl rfl

theorem unmoved_peekLog (s : State) (payload : List Byte) : Unmoved s (peekLogEffect s.clearOutputs payload).state := by
  unfold peekLogEffect
  split <;> exact .of_queues rfl rfl rfl

/-- CONFIGURE-QUEUE replaces a configuration, and no more (R11, R163). -/
theorem unmoved_configureQueue (s : State) (payload : List Byte) :
    Unmoved s (configureQueueEffect s.clearOutputs payload).state := by
  unfold configureQueueEffect
  split
  · exact .of_queues rfl rfl rfl
  next q _ =>
    split
    · exact .of_queues rfl rfl rfl
    · split
      · exact .of_queues rfl rfl rfl
      · split
        · refine ⟨rfl, .rfl, fun p => ?_⟩
          dsimp only
          rw [modifyQueue_queue]
          split
          next hp =>
            rw [hp]
            exact ⟨rfl, rfl, rfl, rfl, rfl⟩
          next => exact ⟨rfl, rfl, rfl, rfl, rfl⟩
        · exact .of_queues rfl rfl rfl

theorem event_complete (s : State) (c : Instr) (n : Nat) (status : MemStatus) (data : List Word) :
    Event s c (s.clearOutputs.complete n status data) := by
  unfold State.complete
  split
  · exact .quiet (.of_queues rfl rfl rfl)
  · have hnumber : Course s (s.clearOutputs.releaseNumber n) := .of_same rfl rfl rfl rfl rfl
    exact .work (hnumber.trans (.route _ _ _ _))

theorem event_expire (s : State) (c : Instr) (r : Requester) (t : Tag) : Event s c (s.clearOutputs.expire r t) := by
  obtain h | ⟨k, -, -, h⟩ := expire_cases s.clearOutputs r t
  · rw [h]
    exact .quiet (.of_queues rfl rfl rfl)
  · rw [h]
    exact .work ((Course.clearOutputs s).trans (.expireHeld _ _))

/-- Every command is of one of the kinds. -/
theorem exec_event {c : Instr} {s t : State} (h : exec c s = .next t) : Event s c t := by
  cases c with
  | takeRequest q => injection h with h; exact h ▸ .takes q
  | writeBeat r t' b =>
    injection h with h
    exact h ▸ .work ((Course.clearOutputs s).trans (.offerBeat _ _ _ _))
  | memoryPassage n => injection h with h; exact h ▸ .quiet (unmoved_passage s n)
  | waiterExpiry r t' => injection h with h; exact h ▸ event_expire s _ r t'
  | requestFrame bits => injection h with h; exact h ▸ .quiet (.of_queues (period_softReset _ _) rfl rfl)
  | fetch k => injection h with h; exact h ▸ .quiet (.of_queues (fetchPeriod_softReset _ _) rfl rfl)
  | readStatus => injection h with h; exact h ▸ .quiet (unmoved_execute s _ (fun _ => .of_queues rfl rfl rfl))
  | readClassMap => injection h with h; exact h ▸ .quiet (unmoved_execute s _ (fun _ => .of_queues rfl rfl rfl))
  | readQueue => injection h with h; exact h ▸ .quiet (unmoved_execute s _ (unmoved_readQueue s))
  | readWindow => injection h with h; exact h ▸ .quiet (unmoved_execute s _ (unmoved_readWindow s))
  | writeWindow => injection h with h; exact h ▸ .quiet (unmoved_execute s _ (unmoved_writeWindow s))
  | writeClass => injection h with h; exact h ▸ .quiet (unmoved_execute s _ (unmoved_writeClass s))
  | readLog => injection h with h; exact h ▸ .quiet (unmoved_execute s _ (unmoved_readLog s))
  | peekLog => injection h with h; exact h ▸ .quiet (unmoved_execute s _ (unmoved_peekLog s))
  | configureQueue => injection h with h; exact h ▸ .quiet (unmoved_execute s _ (unmoved_configureQueue s))
  | start => injection h with h; exact h ▸ .action .start
  | drain => injection h with h; exact h ▸ .action .drain
  | stop => injection h with h; exact h ▸ .action .stop
  | flush => injection h with h; exact h ▸ .action .flush
  | clearFault => injection h with h; exact h ▸ .action .clearFault
  | armNotice => injection h with h; exact h ▸ .action .armNotice
  | queueCommand => injection h with h; exact h ▸ .queueCommand
  | softReset => injection h with h; exact h ▸ .softReset
  | powerOnReset p => injection h with h; exact h ▸ .powerOn p
  | payloadWriteOk | payloadWriteError | headerWriteOk | headerWriteError | popReadOk | popReadError
  | passThroughReadCompletion | passThroughWriteCompletion | noticeWriteCompletion | discardedCompletion =>
    injection h with h
    exact h ▸ event_complete s _ _ _ _

/-! ### The queue states that a command may change -/

/-- The end of a command starts no queue and ends no fault (R88). -/
theorem follows_finish (s : State) (q : QueueId) : Follows (s.queue q) (s.finish.queue q) := by
  unfold State.finish
  split
  · exact (Course.takePresented s.completeSoftReset).queues q
  · split
    · exact .refl _
    · exact (Course.takePresented s).queues q

theorem follows_presentRequest (s : State) (r : Request) (q : QueueId) :
    Follows (s.queue q) ((s.presentRequest r).queue q) :=
  (Course.takePresented (s.withSys { s.sys with arrivals := s.sys.arrivals ++ [r] })).queues q

theorem follows_presentAndArbitrate (s : State) (r : Request) (q : QueueId) :
    Follows (s.queue q) ((s.presentAndArbitrate r).queue q) := by
  unfold State.presentAndArbitrate
  split
  · exact (follows_presentRequest (s.withArbiterDue false) r q).trans ((Course.arbitrate _).queues q)
  · exact follows_presentRequest s r q

theorem Event.followsBut {s t : State} {c : Instr} (h : Event s c t) (hp : ∀ p, c ≠ .powerOnReset p) (q : QueueId) :
    FollowsBut (c = .start ∨ c = .queueCommand) (c = .clearFault ∨ c = .stop ∨ c = .queueCommand ∨ c = .softReset)
      (s.queue q) (t.queue q) := by
  cases h with
  | work hw => exact ((hw.queues q).trans (follows_finish _ q)).but _ _
  | quiet hu => exact (hu.followsBut q).mono False.elim False.elim
  | takes r => exact (follows_presentAndArbitrate s.clearOutputs r q).but _ _
  | action a =>
    refine FollowsBut.trans ?_ ((follows_finish _ q).but _ _)
    obtain ⟨l, -, h⟩ | ⟨-, k, l, -, h⟩ := executeAction_cases s.clearOutputs a
    · rw [h]
      exact (Follows.refl _).but _ _
    · rw [h]
      refine ((act_effect s.clearOutputs k a).2 q).mono (fun ha => ?_) (fun ha => ?_)
      · rw [ha]
        exact .inl rfl
      · obtain rfl | rfl := ha
        · exact .inr (.inl rfl)
        · exact .inl rfl
  | queueCommand =>
    refine FollowsBut.trans ?_ ((follows_finish _ q).but _ _)
    obtain ⟨l, -, h⟩ | ⟨-, p, l, -, -, h⟩ := execute_cases s.clearOutputs .queueCommand queueCommandEffect
    · rw [h]
      exact (Follows.refl _).but _ _
    · rw [h]
      exact ((queueCommand_effect s.clearOutputs p.payload).2 q).mono (fun _ => .inr rfl) (fun _ => .inr (.inr (.inl rfl)))
  | softReset =>
    refine FollowsBut.trans ?_ ((follows_finish _ q).but _ _)
    obtain ⟨l, -, h⟩ | ⟨-, p, l, -, -, h⟩ := execute_cases s.clearOutputs .softReset softResetEffect
    · rw [h]
      exact (Follows.refl _).but _ _
    · rw [h]
      exact ((softReset_effect s.clearOutputs p.payload).2.1 q).mono False.elim (fun _ => .inr (.inr (.inr rfl)))
  | powerOn p => exact absurd rfl (hp p)

/-- Settles O60: a command's own effect changes the queue states that are its own to change, and the rest of its event starts no
queue and ends no fault. -/
theorem queueStatesChangeOnlyByTheirCauses : Obligations.QueueStatesChangeOnlyByTheirCauses := by
  intro c s t q h hp
  obtain ⟨hstopped, hfaulted, hstopping⟩ := (exec_event h).followsBut hp q
  exact ⟨fun hs hstart hcommand => hstopped (fun hc => hc.elim hstart hcommand) hs,
    fun hs hclear hstop hcommand hreset =>
      hfaulted (fun hc => hc.elim hclear (Or.elim · hstop (Or.elim · hcommand hreset))) hs,
    hstopping⟩

end Sys2Proof.Machine.Laws

namespace Sys2Proof.Machine.Laws

open Sys2Proof Sys2Proof.Machine

/-! ### The end of a command in a soft reset (R168, R169) -/

theorem softResetDone_iff (s : State) : s.softResetDone = true ↔ s.link.softReset = true ∧ s.runDown := by
  have hstates : s.allStopped = true ↔ ∀ q, (s.queue q).state = .stopped := by
    rw [State.allStopped, List.all_eq_true, forall_queues_iff s (fun x => decide (x.state = .stopped) = true)]
    simp only [decide_eq_true_eq]
  rw [State.softResetDone, Bool.and_eq_true, Bool.and_eq_true, hstates, List.isEmpty_iff, and_assoc, State.runDown]

/-- Where the test of R168 holds, the soft reset completes, and the taking test follows. -/
theorem finish_of_runDown {s : State} (hr : s.link.softReset = true) (h : s.runDown) :
    s.finish = s.completeSoftReset.takePresented := by
  rw [State.finish, if_pos ((softResetDone_iff s).2 ⟨hr, h⟩)]

/-- Where it does not, the port takes nothing. -/
theorem finish_of_not_runDown {s : State} (hr : s.link.softReset = true) (h : ¬s.runDown) : s.finish = s := by
  rw [State.finish, if_neg (fun hd => h ((softResetDone_iff s).1 hd).2), takePresented_of_softReset hr, ite_self]

/-- A command that ends with a soft reset in progress has not met the test. -/
theorem not_runDown_of_finish {s : State} (h : s.finish.link.softReset = true) :
    s.link.softReset = true ∧ ¬s.runDown ∧ s.finish = s := by
  cases hr : s.link.softReset with
  | false =>
    have hd := softResetDone_of_clear s hr
    rw [State.finish, if_neg (by rw [hd]; decide)] at h
    have hflag : (if s.sys.sent.isEmpty then s else s.takePresented).link.softReset = false := by
      split
      · exact hr
      · exact (Course.takePresented s).softReset.trans hr
    rw [hflag] at h
    cases h
  | true =>
    by_cases hd : s.runDown
    · rw [finish_of_runDown hr hd, (Course.takePresented _).softReset] at h
      cases h
    · exact ⟨rfl, hd, finish_of_not_runDown hr hd⟩

/-! ### What a soft reset in progress keeps (R106, R149, R168) -/

/-- Every queue is STOPPING or STOPPED. -/
def Halted (s : State) : Prop := ∀ q, (s.queue q).state = .stopping ∨ (s.queue q).state = .stopped

theorem Halted.course {s t : State} (h : Halted s) (k : Course s t) : Halted t := fun q =>
  (h q).elim (fun hs => ((k.queues q).stopping hs).imp And.left id) (fun hs => .inr ((k.queues q).stopped hs))

theorem runDown_iff_of_unmoved {s t : State} (h : Unmoved s t) : t.runDown ↔ s.runDown := by
  have hstates : ∀ q, (t.queue q).state = (s.queue q).state := fun q => (h.queues q).1
  simp only [State.runDown, hstates, h.tracker]

theorem Unmoved.softResetLaw {s t : State} (h : Unmoved s t) (k : SoftResetLaw s) : SoftResetLaw t := by
  intro hr
  obtain ⟨hhalted, hdown⟩ := k (h.softReset.symm.trans hr)
  refine ⟨fun q => ?_, fun hd => hdown ((runDown_iff_of_unmoved h).1 hd)⟩
  rw [(h.queues q).1]
  exact hhalted q

/-- The end of a command keeps the law where its work has left every queue STOPPING or STOPPED. -/
theorem softResetLaw_finish {s : State} (h : s.link.softReset = true → Halted s) : SoftResetLaw s.finish := by
  intro hr
  obtain ⟨hflag, hdown, he⟩ := not_runDown_of_finish hr
  rw [he]
  exact ⟨h hflag, hdown⟩

/-- The arbiter changes no transaction but its beat mode (R37). -/
theorem unmoved_arbitrate (s : State) : Unmoved s s.arbitrate := by
  have htracker : s.arbitrate.sys.tracker.length = s.sys.tracker.length :=
    arbitrate_keeps (P := fun u => u.sys.tracker.length = s.sys.tracker.length) (fun u q w hu _ _ => by
      refine Eq.trans ?_ hu
      unfold State.grantHead State.grantPush State.setBeatMode
      dsimp only
      split
      · rfl
      · exact setTransaction_tracker_length _ _) rfl
  refine ⟨by rw [(granted_arbitrate s).only.link], ?_, fun q => ?_⟩
  · rw [← List.length_eq_zero_iff, htracker, List.length_eq_zero_iff]
  · have hgranted := (granted_arbitrate s).queues q
    generalize s.arbitrate.queue q = y at hgranted
    obtain ⟨gone, ws, p, n, -⟩ := hgranted
    exact ⟨rfl, rfl, rfl, rfl, rfl⟩

/-- A request presented in a soft reset stays at the port (R149). -/
theorem presentRequest_of_softReset {s : State} (hr : s.link.softReset = true) (q : Request) :
    s.presentRequest q = s.withSys { s.sys with arrivals := s.sys.arrivals ++ [q] } :=
  takePresented_of_softReset (s := s.withSys { s.sys with arrivals := s.sys.arrivals ++ [q] }) hr

theorem unmoved_presentAndArbitrate {s : State} (hr : s.link.softReset = true) (q : Request) :
    Unmoved s (s.presentAndArbitrate q) := by
  unfold State.presentAndArbitrate
  split
  · rw [presentRequest_of_softReset (s := s.withArbiterDue false) hr]
    obtain ⟨hflag, htracker, hqueues⟩ := unmoved_arbitrate ((s.withArbiterDue false).withSys
      { s.sys with arrivals := s.sys.arrivals ++ [q] })
    exact ⟨hflag, htracker, hqueues⟩
  · rw [presentRequest_of_softReset hr]
    exact .of_queues rfl rfl rfl

theorem presentAndArbitrate_softReset (s : State) (q : Request) :
    (s.presentAndArbitrate q).link.softReset = s.link.softReset := by
  have hpresent : ∀ u : State, (u.presentRequest q).link.softReset = u.link.softReset := fun u =>
    (Course.takePresented (u.withSys { u.sys with arrivals := u.sys.arrivals ++ [q] })).softReset
  unfold State.presentAndArbitrate
  split
  · exact (Course.arbitrate _).softReset.trans (hpresent _)
  · exact hpresent s

/-- In a soft reset a command other than a power-on reset does work already taken, or moves nothing (R149, R168). -/
theorem Event.in_softReset {s t : State} {c : Instr} (h : Event s c t) (hr : s.link.softReset = true)
    (hp : ∀ p, c ≠ .powerOnReset p) : (∃ w, Course s w ∧ t = w.finish) ∨ Unmoved s t := by
  have hbusy : ∀ l : Link, l.softReset = s.link.softReset → Course s (s.clearOutputs.withLink l) := fun l hl =>
    .of_same hl rfl rfl rfl rfl
  cases h with
  | work hw => exact .inl ⟨_, hw, rfl⟩
  | quiet hu => exact .inr hu
  | takes q =>
    obtain ⟨hflag, htracker, hqueues⟩ := unmoved_presentAndArbitrate (s := s.clearOutputs) hr q
    exact .inr ⟨hflag, htracker, hqueues⟩
  | action a =>
    obtain ⟨l, hl, h⟩ | ⟨hn, -⟩ := executeAction_cases s.clearOutputs a
    · exact .inl ⟨_, hbusy l hl, by rw [h]⟩
    · exact absurd (hr.symm.trans hn) Bool.noConfusion
  | queueCommand =>
    obtain ⟨l, hl, h⟩ | ⟨hn, -⟩ := execute_cases s.clearOutputs .queueCommand queueCommandEffect
    · exact .inl ⟨_, hbusy l hl, by rw [h]⟩
    · exact absurd (hr.symm.trans (hn.resolve_right Command.noConfusion)) Bool.noConfusion
  | softReset =>
    obtain ⟨l, hl, h⟩ | ⟨hn, -⟩ := execute_cases s.clearOutputs .softReset softResetEffect
    · exact .inl ⟨_, hbusy l hl, by rw [h]⟩
    · exact absurd (hr.symm.trans (hn.resolve_right Command.noConfusion)) Bool.noConfusion
  | powerOn p => exact absurd rfl (hp p)

/-- Outside a soft reset, a command leaves the flag clear, or is a SOFT-RESET that leaves every queue STOPPING or STOPPED. -/
theorem Event.softResetLaw_of_clear {s t : State} {c : Instr} (h : Event s c t) (hr : s.link.softReset = false) :
    SoftResetLaw t := by
  have hclear : ∀ {u : State}, u.link.softReset = s.link.softReset → SoftResetLaw u.finish := fun hu =>
    softResetLaw_finish (fun hs => absurd ((hu.trans hr).symm.trans hs) Bool.noConfusion)
  have hvacuous : ∀ {u : State}, u.link.softReset = s.link.softReset → SoftResetLaw u := fun hu hs =>
    absurd ((hu.trans hr).symm.trans hs) Bool.noConfusion
  cases h with
  | work hw => exact hclear hw.softReset
  | quiet hu => exact hvacuous hu.softReset
  | takes q => exact hvacuous (presentAndArbitrate_softReset s.clearOutputs q)
  | action a =>
    obtain ⟨l, hl, h⟩ | ⟨-, q, l, hl, h⟩ := executeAction_cases s.clearOutputs a
    · rw [h]
      exact hclear hl
    · rw [h]
      exact hclear hl
  | queueCommand =>
    obtain ⟨l, hl, h⟩ | ⟨-, p, l, -, hl, h⟩ := execute_cases s.clearOutputs .queueCommand queueCommandEffect
    · rw [h]
      exact hclear hl
    · rw [h]
      exact hclear (hl.trans (queueCommand_effect s.clearOutputs p.payload).1)
  | softReset =>
    obtain ⟨l, hl, h⟩ | ⟨-, p, l, -, -, h⟩ := execute_cases s.clearOutputs .softReset softResetEffect
    · rw [h]
      exact hclear hl
    · rw [h]
      exact softResetLaw_finish (fun _ => (softReset_effect s.clearOutputs p.payload).2.2)
  | powerOn p => exact fun hs => absurd hs Bool.false_ne_true

/-- Every command keeps the soft reset law; a power-on reset clears the flag. -/
theorem softResetLaw_exec {s t : State} {c : Instr} (k : SoftResetLaw s) (h : exec c s = .next t) : SoftResetLaw t := by
  cases hr : s.link.softReset with
  | false => exact (exec_event h).softResetLaw_of_clear hr
  | true =>
    by_cases hp : ∃ p, c = .powerOnReset p
    · obtain ⟨p, rfl⟩ := hp
      injection h with h
      exact fun hs => absurd (h ▸ hs : (s.powerOn p).link.softReset = true) Bool.false_ne_true
    · obtain ⟨w, hw, rfl⟩ | hu := (exec_event h).in_softReset hr (fun p hc => hp ⟨p, hc⟩)
      · exact softResetLaw_finish (fun _ => Halted.course (k hr).1 hw)
      · exact hu.softResetLaw k

theorem softResetLaw_idle {s t : State} (k : SoftResetLaw s) (h : idle s = .next t) : SoftResetLaw t := by
  by_cases hdue : s.due = []
  · rw [idle, hdue] at h
    injection h with h
    exact h ▸ (Unmoved.of_queues rfl rfl rfl : Unmoved s s.clearOutputs.tick).softResetLaw k
  · obtain ⟨c, -, hidle | hidle⟩ := idle_expires hdue
    · exact softResetLaw_exec k (hidle.symm.trans h)
    · exact softResetLaw_exec (s := s.useFree) k (hidle.symm.trans h)

theorem softResetLaw_step {s t : State} (k : SoftResetLaw s) (h : step s = .next t) : SoftResetLaw t := by
  unfold step at h
  split at h
  · exact softResetLaw_idle k h
  next c rest _ => exact softResetLaw_exec (s := s.withPending rest) k h

/-! ### The completion of a soft reset (R169) -/

theorem take_of_one_arrival {u : State} {a : Request} (ha : u.sys.arrivals = [a]) (hr : u.link.softReset = false)
    (ht : u.sys.tracker = []) : u.takePresented = (u.withSys { u.sys with arrivals := [] }).take a := by
  have hc : u.canTake a = true := by simp [State.canTake, State.transaction, hr, ht]
  rw [State.takePresented, ha, State.takeFrom, if_pos hc]
  rfl

theorem attentionLine_of_stopped {u : State} (hl : u.log.entries = []) (hs : ∀ q, (u.queue q).state = .stopped) :
    u.attentionLine = false := by
  have hnone : u.someFaulted = false := by
    rw [State.someFaulted, List.any_eq_false]
    refine (forall_queues_iff u (fun x => ¬decide (x.state = .faulted) = true)).2 (fun q => ?_)
    rw [hs q]
    decide
  rw [State.attentionLine, hl, hnone]
  rfl

/-- What the completing command leaves, before the port tests the presented request. -/
theorem completeSoftReset_spec {s t : State} {c : Instr} (h : exec c s = .next t) (hr : s.link.softReset = true)
    (ht : t.link.softReset = false) (hp : ∀ p, c ≠ .powerOnReset p) :
    ∃ w, Course s w ∧ w.runDown ∧ t = w.completeSoftReset.takePresented := by
  obtain ⟨w, hw, rfl⟩ | hu := (exec_event h).in_softReset hr hp
  · have hflag := hw.softReset.trans hr
    by_cases hd : w.runDown
    · exact ⟨w, hw, hd, finish_of_runDown hflag hd⟩
    · rw [finish_of_not_runDown hflag hd, hflag] at ht
      cases ht
  · rw [hu.softReset, hr] at ht
    cases ht

end Sys2Proof.Machine.Laws

namespace Sys2Proof.Machine.Laws

open Sys2Proof Sys2Proof.Machine

/-! ### Work that goes on in a soft reset does what it does alone (R149, R168)

The bridge reads the soft-reset flag, the requests at the port and the waiting commands to take a request, or to put the arbiter's
run off for one. In a soft reset the port takes none, and alone there is none, so the work is the same. -/

/-- v is u in the soft reset of s, with the requests at the port and the waiting commands of s, of which u has none. -/
structure Behind (s u v : State) : Prop where
  eq        : v = u.backIn s true
  softReset : u.link.softReset = false
  arrivals  : u.sys.arrivals = []
  pending   : u.pending = []

section Behind

variable {s u v : State} (h : Behind s u v)

/-- Two ways to go on, chosen alike. -/
theorem Behind.ite {a a' b b' : State} {c : Prop} [Decidable c] (ha : c → Behind s a a') (hb : ¬c → Behind s b b') :
    Behind s (if c then a else b) (if c then a' else b') := by
  split
  next hc => exact ha hc
  next hc => exact hb hc

include h

/-! ### What u and v agree in, and the updates of the blocks -/

theorem Behind.queue (q : QueueId) : v.queue q = u.queue q := by rw [h.eq]; rfl

theorem Behind.transaction (r : Requester) (t : Tag) : v.transaction r t = u.transaction r t := by rw [h.eq]; rfl

theorem Behind.withReservations (l : List Entry) : Behind s (u.withReservations l) (v.withReservations l) := by
  obtain rfl := h.eq
  exact ⟨rfl, h.softReset, h.arrivals, h.pending⟩

theorem Behind.withMem (m : MemoryPort) : Behind s (u.withMem m) (v.withMem m) := by
  obtain rfl := h.eq
  exact ⟨rfl, h.softReset, h.arrivals, h.pending⟩

theorem Behind.withHold (x : HoldUnit) : Behind s (u.withHold x) (v.withHold x) := by
  obtain rfl := h.eq
  exact ⟨rfl, h.softReset, h.arrivals, h.pending⟩

theorem Behind.useFree : Behind s u.useFree v.useFree := by
  obtain rfl := h.eq
  exact ⟨rfl, h.softReset, h.arrivals, h.pending⟩

theorem Behind.appendLog (e : LogEntry) : Behind s (u.appendLog e) (v.appendLog e) := by
  obtain rfl := h.eq
  exact ⟨rfl, h.softReset, h.arrivals, h.pending⟩

theorem Behind.setQueue (q : QueueId) (x : Queue) : Behind s (u.setQueue q x) (v.setQueue q x) := by
  obtain rfl := h.eq
  exact ⟨rfl, h.softReset, h.arrivals, h.pending⟩

theorem Behind.modifyQueue (q : QueueId) (f : Queue → Queue) : Behind s (u.modifyQueue q f) (v.modifyQueue q f) := by
  rw [State.modifyQueue, State.modifyQueue, h.queue]
  exact h.setQueue q _

theorem Behind.setWaiters (q : QueueId) (side : Side) (ws : List Waiter) :
    Behind s (u.setWaiters q side ws) (v.setWaiters q side ws) := h.modifyQueue q _

theorem Behind.setTransaction (x : Transaction) : Behind s (u.setTransaction x) (v.setTransaction x) := by
  obtain rfl := h.eq
  exact ⟨rfl, h.softReset, h.arrivals, h.pending⟩

theorem Behind.sendResponse (x : Transaction) (a : Answer) : Behind s (u.sendResponse x a) (v.sendResponse x a) := by
  obtain rfl := h.eq
  exact ⟨rfl, h.softReset, h.arrivals, h.pending⟩

theorem Behind.setEntry (e : Entry) : Behind s (u.setEntry e) (v.setEntry e) := by
  obtain rfl := h.eq
  exact ⟨rfl, h.softReset, h.arrivals, h.pending⟩

theorem Behind.freeEntry (e : Entry) : Behind s (u.freeEntry e) (v.freeEntry e) := by
  obtain rfl := h.eq
  exact ⟨rfl, h.softReset, h.arrivals, h.pending⟩

theorem Behind.present (rs : List MemRequest) : Behind s (u.present rs) (v.present rs) := by
  obtain rfl := h.eq
  exact ⟨rfl, h.softReset, h.arrivals, h.pending⟩

/-! ### Answers -/

theorem Behind.answer (r : Requester) (t : Tag) (status : Status) (reason : Option Reason) (data : List Word) :
    Behind s (u.answer r t status reason data) (v.answer r t status reason data) := by
  unfold State.answer
  rw [h.transaction]
  cases u.transaction r t with
  | none => exact h
  | some x => exact .ite (fun _ => h) (fun _ => .ite (fun _ => h.sendResponse _ _) (fun _ => h.setTransaction _))

theorem Behind.answerOk (r : Requester) (t : Tag) (data : List Word) : Behind s (u.answerOk r t data) (v.answerOk r t data) :=
  h.answer _ _ _ _ _

theorem Behind.decline (r : Requester) (t : Tag) (e : LogEntry) : Behind s (u.decline r t e) (v.decline r t e) :=
  (h.appendLog e).answer _ _ _ _ _

theorem Behind.declineQueue (q : QueueId) (r : Requester) (t : Tag) (reason : Reason) :
    Behind s (u.declineQueue q r t reason) (v.declineQueue q r t reason) := h.decline _ _ _

theorem Behind.declineAddress (x : Request) (reason : Reason) : Behind s (u.declineAddress x reason) (v.declineAddress x reason) :=
  h.decline _ _ _

theorem Behind.retry (q : QueueId) (r : Requester) (t : Tag) (reason : Reason) :
    Behind s (u.retry q r t reason) (v.retry q r t reason) := by
  unfold State.retry
  rw [h.queue]
  exact Behind.answer (.ite (fun _ => h.appendLog _) (fun _ => h)) _ _ _ _ _

theorem Behind.setBeatMode (r : Requester) (t : Tag) (m : BeatMode) : Behind s (u.setBeatMode r t m) (v.setBeatMode r t m) := by
  unfold State.setBeatMode
  rw [h.transaction]
  cases u.transaction r t with
  | none => exact h
  | some x => exact h.setTransaction _

omit h in
theorem Behind.declineWaiters (q : QueueId) (reason : Reason) (ws : List Waiter) {u v : State} (h : Behind s u v) :
    Behind s (u.declineWaiters q reason ws) (v.declineWaiters q reason ws) := by
  induction ws generalizing u v with
  | nil => exact h
  | cons w ws ih => exact ih (h.declineQueue _ _ _ _)

theorem Behind.releaseList (q : QueueId) (side : Side) (reason : Reason) :
    Behind s (u.releaseList q side reason) (v.releaseList q side reason) := by
  unfold State.releaseList
  rw [h.queue]
  exact (h.setWaiters q side []).declineWaiters _ _ _

/-! ### Grants -/

theorem Behind.grantPush (q : QueueId) (r : Requester) (t : Tag) (L : BurstLength) :
    Behind s (u.grantPush q r t L) (v.grantPush q r t L) := by
  obtain rfl := h.eq
  exact ((h.withReservations _).modifyQueue q _).setBeatMode r t .handing

theorem Behind.grantHead (q : QueueId) (w : Waiter) : Behind s (u.grantHead q w) (v.grantHead q w) := by
  unfold State.grantHead
  rw [h.queue]
  exact (h.setWaiters _ _ _).grantPush _ _ _ _

omit h in
theorem Behind.arbitrateFor (n : Nat) {u v : State} (h : Behind s u v) : Behind s (u.arbitrateFor n) (v.arbitrateFor n) := by
  induction n generalizing u v with
  | zero => exact h
  | succ n ih =>
    have he : v.earliestEligible = u.earliestEligible := by rw [h.eq]; rfl
    rw [arbitrateFor_succ, arbitrateFor_succ, he]
    cases u.earliestEligible with
    | none => exact h
    | some c => exact ih (h.grantHead _ _)

theorem Behind.arbitrate : Behind s u.arbitrate v.arbitrate := by
  have hlength : v.reservations.length = u.reservations.length := by rw [h.eq]; rfl
  rw [State.arbitrate, State.arbitrate, hlength]
  exact h.arbitrateFor _

omit h in
theorem Behind.reexaminePushFrom (q : QueueId) (ws : List Waiter) {u v : State} (h : Behind s u v) :
    Behind s (u.reexaminePushFrom q ws) (v.reexaminePushFrom q ws) := by
  induction ws generalizing u v with
  | nil => exact h
  | cons w ws ih =>
    obtain rfl := h.eq
    exact .ite (fun _ => ih ((h.setWaiters q .push ws).grantPush _ _ _ _)) (fun _ => h)

theorem Behind.reexaminePush (q : QueueId) : Behind s (u.reexaminePush q) (v.reexaminePush q) := by
  rw [State.reexaminePush, State.reexaminePush, h.queue]
  exact h.reexaminePushFrom q _

theorem Behind.grantPop (q : QueueId) (r : Requester) (t : Tag) (L : BurstLength) :
    Behind s (u.grantPop q r t L) (v.grantPop q r t L) := by
  unfold State.grantPop
  rw [h.queue]
  exact (h.setQueue _ _).present _

omit h in
theorem Behind.reexaminePopFrom (q : QueueId) (ws : List Waiter) {u v : State} (h : Behind s u v) :
    Behind s (u.reexaminePopFrom q ws) (v.reexaminePopFrom q ws) := by
  induction ws generalizing u v with
  | nil => exact h
  | cons w ws ih =>
    obtain rfl := h.eq
    exact .ite (fun _ => ih ((h.setWaiters q .pop ws).grantPop _ _ _ _))
      (fun _ => .ite (fun _ => ih ((h.setWaiters q .pop ws).declineQueue _ _ _ _)) (fun _ => h))

theorem Behind.reexaminePop (q : QueueId) : Behind s (u.reexaminePop q) (v.reexaminePop q) := by
  unfold State.reexaminePop
  rw [h.queue]
  cases (u.queue q).state with
  | running => exact h.reexaminePopFrom q _
  | draining => exact h.reexaminePopFrom q _
  | _ => exact h

/-! ### Notices, faults and arrivals -/

theorem Behind.noticeCheck (q : QueueId) : Behind s (u.noticeCheck q) (v.noticeCheck q) := by
  unfold State.noticeCheck
  rw [h.queue]
  exact .ite (fun _ => (h.setQueue _ _).present _) (fun _ => h)

theorem Behind.faultTrigger (q : QueueId) (reason : FaultReason) : Behind s (u.faultTrigger q reason) (v.faultTrigger q reason) := by
  have hfault : Behind s (u.enterFaulted q reason) (v.enterFaulted q reason) :=
    (((h.modifyQueue q _).appendLog _).releaseList _ _ _).releaseList _ _ _
  unfold State.faultTrigger
  rw [h.queue]
  cases (u.queue q).state with
  | running => exact hfault
  | draining => exact hfault
  | _ => exact h

theorem Behind.testDrain (q : QueueId) : Behind s (u.testDrain q) (v.testDrain q) := by
  obtain rfl := h.eq
  exact .ite (fun _ => h.modifyQueue q _) (fun _ => h)

theorem Behind.testStop (q : QueueId) : Behind s (u.testStop q) (v.testStop q) := by
  obtain rfl := h.eq
  exact .ite (fun _ => h.modifyQueue q _) (fun _ => h)

/-! ### Freed entries and commit -/

/-- Alone no request is at the port and none comes; in a soft reset the port takes none (R37, R149). -/
theorem Behind.entryFreed : Behind s u.entryFreed v.entryFreed := by
  have hnone : v.noPushWaiter = u.noPushWaiter := by rw [h.eq]; rfl
  have hflag : v.link.softReset = true := by rw [h.eq]; rfl
  have htakes : v.presentedTakes = false := by
    unfold State.presentedTakes
    split
    · rfl
    · exact canTake_of_softReset hflag _
  have harriving : v.pushArriving = false := by
    unfold State.pushArriving
    split
    · rw [canTake_of_softReset hflag, Bool.and_false, Bool.false_and]
    · rfl
  have halone : u.pushArriving = false := by
    unfold State.pushArriving
    rw [h.pending]
  unfold State.entryFreed
  rw [hnone, htakes, harriving, halone, presentedTakes_of_no_arrival h.arrivals]
  exact .ite (fun _ => h) (fun _ => h.arbitrate)

omit h in
theorem Behind.passClosed (q : QueueId) (n : Nat) {u v : State} (h : Behind s u v) :
    Behind s (u.passClosed q n) (v.passClosed q n) := by
  induction n generalizing u v with
  | zero => exact h
  | succ n ih =>
    have he : v.oldest q = u.oldest q := by rw [h.eq]; rfl
    unfold State.passClosed
    rw [he]
    cases u.oldest q with
    | none => exact h
    | some e => exact .ite (fun _ => ih ((h.freeEntry e).modifyQueue q _)) (fun _ => h)

theorem Behind.commitAttempt (q : QueueId) : Behind s (u.commitAttempt q) (v.commitAttempt q) := by
  obtain rfl := h.eq
  exact .ite (fun _ => ((((h.passClosed q _).noticeCheck q).reexaminePop q).testDrain q).entryFreed) (fun _ => h)

theorem Behind.lastEntryGone (q : QueueId) : Behind s (u.lastEntryGone q) (v.lastEntryGone q) := by
  obtain rfl := h.eq
  exact .ite (fun _ => (h.reexaminePop q).testDrain q) (fun _ => h)

/-! ### Resolution, beats and completions of record writes -/

theorem Behind.rewindGrants (q : QueueId) : Behind s (u.rewindGrants q) (v.rewindGrants q) := by
  obtain rfl := h.eq
  exact .ite (fun _ => h) (fun _ =>
    .ite (fun _ => h.useFree.entryFreed.reexaminePush q) (fun _ => (h.useFree.reexaminePush q).entryFreed))

theorem Behind.rewind (e : Entry) : Behind s (u.rewind e) (v.rewind e) :=
  ((((h.freeEntry e).modifyQueue e.queue _).rewindGrants e.queue).commitAttempt e.queue).lastEntryGone e.queue

theorem Behind.issueFiller (e : Entry) : Behind s (u.issueFiller e) (v.issueFiller e) := by
  unfold State.issueFiller
  rw [h.queue]
  exact (h.setEntry _).present _

theorem Behind.resolve (e : Entry) : Behind s (u.resolve e) (v.resolve e) := by
  have hdecline := h.decline e.requester e.tag e.abandonedLog
  obtain rfl := h.eq
  exact .ite (fun _ => ((hdecline.freeEntry e).entryFreed).testStop _)
    (fun _ => .ite (fun _ => hdecline.rewind e) (fun _ => hdecline.issueFiller e))

theorem Behind.settleEntry (e : Entry) : Behind s (u.settleEntry e) (v.settleEntry e) :=
  .ite (fun _ => (h.setEntry e).resolve e) (fun _ => h.setEntry e)

theorem Behind.handBeat (e : Entry) (b : Beat) : Behind s (u.handBeat e b) (v.handBeat e b) := by
  unfold State.handBeat
  rw [h.queue]
  cases e.state with
  | filling =>
    exact .ite (fun _ => h.settleEntry _) (fun _ => .ite (fun _ => (h.setEntry _).present _) (fun _ => h.setEntry _))
  | discarding => exact h.settleEntry _
  | _ => exact h

theorem Behind.afterPayload (e : Entry) : Behind s (u.afterPayload e) (v.afterPayload e) := by
  unfold State.afterPayload
  rw [h.queue]
  refine .ite (fun _ => ?_) (fun _ => h.setEntry e)
  cases e.cause with
  | none => exact (h.setEntry _).present _
  | some c => exact h.settleEntry _

theorem Behind.payloadCompletes (e : Entry) (status : MemStatus) :
    Behind s (u.payloadCompletes e status) (v.payloadCompletes e status) := by
  unfold State.payloadCompletes
  dsimp only
  cases e.state with
  | writing =>
    cases status with
    | ok => exact h.afterPayload _
    | error => exact h.afterPayload _
  | discarding => exact h.settleEntry _
  | _ => exact h

theorem Behind.answerStored (e : Entry) : Behind s (u.answerStored e) (v.answerStored e) := by
  unfold State.answerStored
  cases e.kind with
  | data => exact h.answerOk _ _ _
  | filler => exact h

theorem Behind.declineHeader (e : Entry) : Behind s (u.declineHeader e) (v.declineHeader e) := by
  unfold State.declineHeader
  cases e.kind with
  | data => exact h.decline _ _ _
  | filler => exact h.appendLog _

theorem Behind.headerOk (e : Entry) : Behind s (u.headerOk e) (v.headerOk e) := by
  unfold State.headerOk
  rw [h.queue]
  exact .ite (fun _ => (((h.answerStored e).freeEntry e).entryFreed).testStop _)
    (fun _ => ((h.setEntry _).answerStored e).commitAttempt _)

theorem Behind.headerError (e : Entry) : Behind s (u.headerError e) (v.headerError e) := by
  unfold State.headerError
  rw [h.queue]
  exact .ite (fun _ => (((h.declineHeader e).freeEntry e).entryFreed).testStop _)
    (fun _ => ((h.setEntry _).declineHeader e).faultTrigger _ _)

theorem Behind.headerCompletes (e : Entry) (status : MemStatus) :
    Behind s (u.headerCompletes e status) (v.headerCompletes e status) := by
  unfold State.headerCompletes
  cases e.state with
  | sealing =>
    cases status with
    | ok => exact h.headerOk e
    | error => exact h.headerError e
  | _ => exact h

/-! ### Pops, pass-through accesses and notices -/

theorem Behind.removePop (q : QueueId) (e : PopEntry) : Behind s (u.removePop q e) (v.removePop q e) := by
  have hremove := h.modifyQueue q (fun x => x.removePop e)
  unfold State.removePop
  dsimp only
  rw [hremove.queue, h.queue]
  exact ((Behind.reexaminePop (.ite (fun _ => hremove) (fun _ => hremove.reexaminePush q)) q).testDrain q).testStop q

theorem Behind.afterRead (q : QueueId) (e : PopEntry) : Behind s (u.afterRead q e) (v.afterRead q e) := by
  have hset : Behind s (u.setPopEntry q e) (v.setPopEntry q e) := h.modifyQueue q _
  exact .ite (fun _ => .ite (fun _ => ((hset.decline _ _ _).faultTrigger _ _).removePop _ _)
    (fun _ => (hset.answerOk _ _ _).removePop _ _)) (fun _ => hset)

theorem Behind.noteMissing (words : Nat) (data : List Word) : Behind s (u.noteMissing words data) (v.noteMissing words data) :=
  .ite (fun _ => h.useFree) (fun _ => h)

theorem Behind.readCompletes (q : QueueId) (e : PopEntry) (first words : Nat) (status : MemStatus) (data : List Word) :
    Behind s (u.readCompletes q e first words status data) (v.readCompletes q e first words status data) := by
  have huses : v.freeUses = u.freeUses := by rw [h.eq]; rfl
  cases status with
  | ok =>
    rw [State.readCompletes, State.readCompletes, huses]
    exact (h.noteMissing words data).afterRead q _
  | error => exact h.afterRead q _

theorem Behind.passThroughCompletes (x : Transaction) (words : Nat) (status : MemStatus) (data : List Word) :
    Behind s (u.passThroughCompletes x words status data) (v.passThroughCompletes x words status data) := by
  have huses : v.freeUses = u.freeUses := by rw [h.eq]; rfl
  unfold State.passThroughCompletes
  rw [huses]
  cases status with
  | error => exact h.declineAddress _ _
  | ok =>
    cases x.request.direction with
    | write => exact h.answerOk _ _ _
    | read => exact (h.noteMissing words data).answerOk _ _ _

theorem Behind.noticeCompletes (q : QueueId) (r : NoticeRecord) (status : MemStatus) :
    Behind s (u.noticeCompletes q r status) (v.noticeCompletes q r status) := by
  have herase := h.modifyQueue q (fun x => { x with notices := x.notices.erase r })
  cases status with
  | ok => exact herase.noticeCheck q
  | error => exact (herase.appendLog _).noticeCheck q

theorem Behind.route (r : MemRequest) (status : MemStatus) (data : List Word) :
    Behind s (u.route r status data) (v.route r status data) := by
  have hentry : ∀ q p, v.entryAt q p = u.entryAt q p := by rw [h.eq]; exact fun _ _ => rfl
  unfold State.route
  cases r.owner with
  | header q p =>
    dsimp only
    rw [hentry]
    cases u.entryAt q p with
    | none => exact h
    | some e => exact h.headerCompletes e status
  | payload q p =>
    dsimp only
    rw [hentry]
    cases u.entryAt q p with
    | none => exact h
    | some e => exact h.payloadCompletes e status
  | popRead q p first =>
    dsimp only
    rw [h.queue]
    cases (u.queue q).popEntryAt p with
    | none => exact h
    | some e => exact h.readCompletes q e first r.words status data
  | passThrough k t =>
    dsimp only
    rw [h.transaction]
    cases u.transaction k t with
    | none => exact h
    | some x => exact h.passThroughCompletes x r.words status data
  | notice q => exact h.noticeCompletes q _ status

/-! ### Beats, expiries and passages -/

theorem Behind.gatherBeat (x : Transaction) (b : Beat) : Behind s (u.gatherBeat x b) (v.gatherBeat x b) := by
  unfold State.gatherBeat
  dsimp only
  cases x.decoded with
  | access m => exact .ite (fun _ => (h.setTransaction _).present _) (fun _ => h.setTransaction _)
  | _ => exact h.setTransaction _

theorem Behind.dropBeat (x : Transaction) : Behind s (u.dropBeat x) (v.dropBeat x) := by
  unfold State.dropBeat
  cases x.answer with
  | none => exact h.setTransaction x
  | some a => exact .ite (fun _ => h.sendResponse x a) (fun _ => h.setTransaction x)

theorem Behind.handOver (x : Transaction) (b : Beat) : Behind s (u.handOver x b) (v.handOver x b) := by
  have hfilling : ∀ r t, v.fillingEntry r t = u.fillingEntry r t := by rw [h.eq]; exact fun _ _ => rfl
  unfold State.handOver
  rw [hfilling]
  cases u.fillingEntry x.request.requester x.request.tag with
  | none => exact h.setTransaction x
  | some e => exact (h.setTransaction x).handBeat e b

theorem Behind.offerBeat (r : Requester) (t : Tag) (b : Beat) : Behind s (u.offerBeat r t b) (v.offerBeat r t b) := by
  unfold State.offerBeat
  rw [h.transaction]
  cases u.transaction r t with
  | none => exact h
  | some x =>
    refine .ite (fun _ => ?_) (fun _ => h)
    dsimp only
    cases x.beatMode with
    | none => exact h
    | some m =>
      cases m with
      | waiting => exact h
      | gathering => exact h.gatherBeat _ b
      | handing => exact h.handOver _ b
      | dropping => exact h.dropBeat _

theorem Behind.expireHeld (k : HeldRequest) : Behind s (u.expireHeld k) (v.expireHeld k) := by
  have hleave : Behind s (u.leave k) (v.leave k) := by
    obtain rfl := h.eq
    exact (h.setWaiters _ _ _).withHold _
  have hretry := hleave.retry k.queue k.waiter.requester k.waiter.tag .timeout
  obtain rfl := h.eq
  refine .ite (fun _ => ?_) (fun _ => hretry)
  cases k.side with
  | push => exact hretry.reexaminePush _
  | pop => exact hretry.reexaminePop _

theorem Behind.releaseNumber (n : Nat) : Behind s (u.releaseNumber n) (v.releaseNumber n) := by
  obtain rfl := h.eq
  exact h.withMem _

theorem Behind.passage (n : Nat) : Behind s (u.passage n) (v.passage n) := by
  have hmem : v.mem = u.mem := by rw [h.eq]; rfl
  have hout : v.outstanding = u.outstanding := by rw [h.eq]; rfl
  unfold State.passage
  rw [hmem, hout]
  refine .ite (fun _ => ?_) (fun _ => h)
  cases u.mem.nextWaiting with
  | none => exact h
  | some r =>
    cases u.mem.freeNumber n with
    | none => exact h
    | some k => exact h.withMem _

end Behind

end Sys2Proof.Machine.Laws

namespace Sys2Proof.Machine.Laws

open Sys2Proof Sys2Proof.Machine

/-! ### The events that carry on with work already taken (R149, R168) -/

/-- The event that leaves u alone leaves v in the soft reset of s: u behind what waited, or the soft reset completed. -/
structure CarriesOn (s u v : State) : Prop where
  goesOn    : ¬u.runDown → v = u.backIn s true
  completes : u.runDown → v = ((u.backIn s false).withLog ⟨[], 0⟩).takePresented

theorem behind_clearOutputs {s : State} (hr : s.link.softReset = true) : Behind s s.alone.clearOutputs s.clearOutputs := by
  refine ⟨?_, rfl, rfl, rfl⟩
  have hlink : ({ s.clearOutputs.link with softReset := true } : Link) = s.clearOutputs.link := by rw [← hr]; rfl
  change s.clearOutputs = s.clearOutputs.withLink { s.clearOutputs.link with softReset := true }
  rw [hlink]
  rfl

/-- The end of the event alone does nothing; in the soft reset it makes the test of R168. -/
theorem Behind.finish {s u v : State} (h : Behind s u v) : CarriesOn s u.finish v.finish := by
  have hflag : v.link.softReset = true := by rw [h.eq]; rfl
  have hdown : v.runDown ↔ u.runDown := by rw [h.eq]; exact Iff.rfl
  rw [finish_of_no_arrival u h.arrivals h.softReset]
  refine ⟨fun hu => ?_, fun hu => ?_⟩
  · rw [finish_of_not_runDown hflag (mt hdown.1 hu), h.eq]
  · rw [finish_of_runDown hflag (hdown.2 hu), h.eq]
    rfl

/-- An event that makes no test, and leaves the queues and the tracker as they were. -/
theorem Behind.untested {s u v : State} (h : Behind s u v) (hu : ¬u.runDown) : CarriesOn s u v :=
  ⟨fun _ => h.eq, fun hd => absurd hd hu⟩

theorem Behind.complete {s u v : State} (h : Behind s u v) (hu : ¬u.runDown) (n : Nat) (status : MemStatus) (data : List Word) :
    CarriesOn s (u.complete n status data) (v.complete n status data) := by
  have hmem : v.mem = u.mem := by rw [h.eq]; rfl
  rw [State.complete, State.complete, hmem]
  cases u.mem.held n with
  | none => exact h.untested hu
  | some p => exact ((h.releaseNumber n).route p.request status data).finish

theorem Behind.expire {s u v : State} (h : Behind s u v) (hu : ¬u.runDown) (r : Requester) (t : Tag) :
    CarriesOn s (u.expire r t) (v.expire r t) := by
  have hheld : v.heldRequest r t = u.heldRequest r t := by rw [h.eq]; rfl
  have hfirst : ∀ k, v.firstDue k = u.firstDue k := by rw [h.eq]; exact fun _ => rfl
  rw [State.expire, State.expire, hheld]
  cases u.heldRequest r t with
  | none => exact h.untested hu
  | some k =>
    dsimp only
    rw [hfirst]
    split
    · exact (h.expireHeld k).finish
    · exact h.untested hu

/-- The soft reset in progress has not met its test (R168), so the work starts from a state that does not meet it. -/
theorem carriesOn_exec {c : Instr} {s t : State} (hc : carriesOn c = true) (hr : s.link.softReset = true) (k : SoftResetLaw s)
    (h : exec c s.alone = .next t) : ∃ v, exec c s = .next v ∧ CarriesOn s t v := by
  have hbehind := behind_clearOutputs hr
  have hdown : ¬s.alone.clearOutputs.runDown := (k hr).2
  cases c with
  | writeBeat r t' b =>
    injection h with h
    exact ⟨_, rfl, h ▸ (hbehind.offerBeat r t' b).finish⟩
  | memoryPassage n =>
    injection h with h
    exact ⟨_, rfl, h ▸ (hbehind.passage n).untested (mt (runDown_iff_of_unmoved (unmoved_passage s.alone n)).1 hdown)⟩
  | waiterExpiry r t' =>
    injection h with h
    exact ⟨_, rfl, h ▸ hbehind.expire hdown r t'⟩
  | payloadWriteOk | payloadWriteError | headerWriteOk | headerWriteError | popReadOk | popReadError
  | passThroughReadCompletion | passThroughWriteCompletion | noticeWriteCompletion | discardedCompletion =>
    injection h with h
    exact ⟨_, rfl, h ▸ hbehind.complete hdown _ _ _⟩
  | _ => cases hc

/-- Settles O56: the law over every step, the state that the completing command leaves, and the work that goes on. -/
theorem stepKeepsTheSoftResetLaw : Obligations.StepKeepsTheSoftResetLaw := by
  unfold Obligations.StepKeepsTheSoftResetLaw
  refine ⟨fun s t k h => softResetLaw_step k h, fun c s t h hr ht hp => ?_, fun c s t hc hr k h => ?_⟩
  · obtain ⟨w, hw, ⟨hstates, htracker⟩, rfl⟩ := completeSoftReset_spec h hr ht hp
    have harrivals : w.completeSoftReset.sys.arrivals = s.sys.arrivals := hw.arrivals hr
    exact ⟨w.completeSoftReset, fun q => ⟨hstates q, (hw.queues q).config⟩, htracker, harrivals, hw.windows, hw.classes,
      rfl, rfl, rfl, attentionLine_of_stopped rfl hstates, rfl,
      fun hnone => takePresented_of_no_arrival _ (harrivals.trans hnone),
      fun a hone => take_of_one_arrival (harrivals.trans hone) rfl htracker⟩
  · obtain ⟨v, hv, hgoesOn, hcompletes⟩ := carriesOn_exec hc hr k h
    exact ⟨fun hd => hgoesOn hd ▸ hv, fun hd => hcompletes hd ▸ hv⟩

end Sys2Proof.Machine.Laws

namespace Sys2Proof.Machine.Laws

open Sys2Proof Sys2Proof.Machine

/-! ### A notice write that completes (R109, R111, R112) -/

/-- The bridge when the status of a notice write at address a has been seen: an ERROR is logged (R111). -/
def noticeLogged (s : State) (q : QueueId) (a : Addr) (status : MemStatus) : State :=
  if status = .error then s.appendLog { reason := .noticeFault, address := some a, queue := some q } else s

/-- Logging an ERROR touches the log alone. -/
theorem answersOnly_noticeLogged (s : State) (q : QueueId) (a : Addr) (status : MemStatus) :
    AnswersOnly s (noticeLogged s q a status) := by
  rw [noticeLogged]
  split
  · exact answersOnly_appendLog _ _
  · exact .refl s

theorem noticeLogged_sent (s : State) (q : QueueId) (a : Addr) (status : MemStatus) :
    (noticeLogged s q a status).sys.sent = s.sys.sent := by
  cases status with
  | ok => rfl
  | error => rfl

/-- The record goes, an ERROR is logged, and then the queue is checked (R111). -/
theorem noticeCompletes_eq (s : State) (q : QueueId) (r : NoticeRecord) (status : MemStatus) :
    s.noticeCompletes q r status = ((noticeLogged s q r.address status).setQueue q
      { s.queue q with notices := (s.queue q).notices.erase r }).noticeCheck q := by
  cases status with
  | ok => rfl
  | error => rfl

theorem noticeCheck_sent (s : State) (q : QueueId) : (s.noticeCheck q).sys.sent = s.sys.sent := by
  obtain ⟨-, h⟩ | ⟨-, h⟩ := noticeCheck_cases s q
  · rw [h]
  · rw [h]
    rfl

/-- The completion of a notice write is routed to its queue, with the record that the write carries (R108, R143). -/
theorem complete_notice {s : State} {n : Nat} {q : QueueId} {a : Addr} {v : Word}
    (ha : s.awaits n (oneWordWrite (.notice q) a v)) (status : MemStatus) :
    s.clearOutputs.complete n status [] = ((s.clearOutputs.numberFreed n).noticeCompletes q ⟨a, v⟩ status).finish := by
  have hheld : s.clearOutputs.mem.held n = some ⟨n, oneWordWrite (.notice q) a v⟩ := ha
  simp only [State.complete, hheld]
  rfl

/-- A notice write's completion sends no response, so that with no soft reset in progress it ends with the notice check. -/
theorem exec_noticeWriteCompletion {s : State} {n : Nat} {q : QueueId} {a : Addr} {v : Word}
    (ha : s.awaits n (oneWordWrite (.notice q) a v)) (hr : s.link.softReset = false) (status : MemStatus) :
    exec (.noticeWriteCompletion n status) s = .next (((noticeLogged (s.clearOutputs.numberFreed n) q a status).setQueue q
      { s.queue q with notices := (s.queue q).notices.erase ⟨a, v⟩ }).noticeCheck q) := by
  refine congrArg _ ((complete_notice ha status).trans ?_)
  rw [noticeCompletes_eq]
  refine finish_of_no_response _ ?_ (softResetDone_of_clear _ ?_)
  · rw [noticeCheck_sent, setQueue_sys, noticeLogged_sent]
    rfl
  · rw [(noticeCheck_frame _ q).1.link, setQueue_link, (answersOnly_noticeLogged _ _ _ _).link]
    exact hr

/-- Settles O47: the check finds the queue without the completed write's record, and fires or leaves it so. -/
theorem noticeCompletionChecksTheQueue : Obligations.NoticeCompletionChecksTheQueue := by
  intro s n status q a v ha hr left logged
  have hexec : exec (.noticeWriteCompletion n status) s =
      .next (((logged (s.clearOutputs.numberFreed n)).setQueue q left).noticeCheck q) :=
    exec_noticeWriteCompletion ha hr status
  have hqueue : ((logged (s.clearOutputs.numberFreed n)).setQueue q left).queue q = left := setQueue_queue_same _ q _
  refine ⟨fun hfires => ?_, fun hnot => ?_⟩
  · rw [hexec, noticeCheck_of_fires (by rw [hqueue]; exact hfires), hqueue, setQueue_setQueue]
  · rw [hexec, noticeCheck_of_not_fires (by rw [hqueue]; exact hnot)]

end Sys2Proof.Machine.Laws

namespace Sys2Proof.Machine.Laws

open Sys2Proof Sys2Proof.Machine

/-! ### The winning window (R120 to R123) -/

theorem wins_iff (w : Window) (c : RequesterClass) (a : Addr) :
    w.wins c a = true ↔ w.enabled = true ∧ w.base.toNat ≤ a.toNat ∧ a.toNat ≤ w.limit.toNat + 4095 ∧
      w.classes.getLsbD c.val = true := by
  simp [Window.wins, inClasses, and_assoc]

/-- The first window in order of entry number that wins is the winner (R120). -/
theorem winner_of_first {s : State} {c : RequesterClass} {a : Addr} {i : WindowIndex} (hi : (s.windows[i]).wins c a = true)
    (hbefore : ∀ j, j < i → ¬(s.windows[j]).wins c a = true) : s.winner c a = some s.windows[i] := by
  have hlength : s.windows.toList.length = 32 := Vector.length_toList
  refine List.find?_eq_some_iff_getElem.2 ⟨hi, i.val, by omega, Vector.getElem_toList _, fun j hj => ?_⟩
  rw [Vector.getElem_toList, Bool.not_eq_true']
  exact Bool.eq_false_iff.2 (hbefore ⟨j, hj.trans i.isLt⟩ hj)

theorem winner_of_none {s : State} {c : RequesterClass} {a : Addr} (h : ∀ j : WindowIndex, ¬(s.windows[j]).wins c a = true) :
    s.winner c a = none := by
  refine List.find?_eq_none.2 (fun w hw => ?_)
  obtain ⟨j, hj, rfl⟩ := Vector.mem_iff_getElem.1 (Vector.mem_toList_iff.1 hw)
  exact h ⟨j, hj⟩

/-- With no winner, the request is a memory access at its own address (R121, R123). -/
theorem decode_of_no_winner {s : State} {q : Request} (h : s.winner (s.classOf q.requester) q.address = none) :
    s.decode q = s.guardAccess (s.classOf q.requester) q.address q.beats := by
  simp only [State.decode, h]

/-- Settles O24: the list search stops at the first window that wins, whose kind then decides. -/
theorem lowestApplicableWindowDecides : Obligations.LowestApplicableWindowDecides := by
  refine ⟨fun s q i ⟨hi, hbefore⟩ => ?_, fun s q hnone => ?_⟩
  · have hwinner : s.winner (s.classOf q.requester) q.address = some s.windows[i] :=
      winner_of_first ((wins_iff _ _ _).2 hi) (fun j hj hwins => hbefore j hj ((wins_iff _ _ _).1 hwins))
    cases hkind : (s.windows[i]).kind with
    | pass | remap | block => simp only [State.decode, hwinner, hkind]
    | push | pop => cases hdirection : q.direction <;> simp only [State.decode, hwinner, hkind, hdirection]
  · exact decode_of_no_winner (winner_of_none (fun j hwins => hnone j ((wins_iff _ _ _).1 hwins)))

end Sys2Proof.Machine.Laws

namespace Sys2Proof.Machine.Laws

open Sys2Proof Sys2Proof.Machine

/-! ### The ring guard (R125, R126) -/

/-- Two byte ranges that both hold a byte meet exactly when they share one. -/
theorem rangesMeet_iff {a m b n : Nat} (hm : 0 < m) (hn : 0 < n) :
    rangesMeet a m b n = true ↔ ∃ x, a ≤ x ∧ x < a + m ∧ b ≤ x ∧ x < b + n := by
  rw [rangesMeet, Bool.and_eq_true, decide_eq_true_eq, decide_eq_true_eq]
  constructor
  · rintro ⟨hab, hba⟩
    exact ⟨max a b, by omega⟩
  · rintro ⟨x, hax, hxa, hbx, hxb⟩
    omega

/-- The access of class c to L words at m shares a byte with the ring of a configured queue that it may not reach (R125). -/
def SharesGuardedByte (s : State) (c : RequesterClass) (m : Addr) (L : BurstLength) : Prop :=
  ∃ q, (s.queue q).config.ringSize ≠ 0 ∧ (s.queue q).config.directAccess.getLsbD c.val = false ∧
    ∃ a, m.toNat ≤ a ∧ a < m.toNat + 8 * L.val ∧ (s.queue q).config.ringByte a

theorem exists_queues_iff (s : State) (p : Queue → Prop) : (∃ x ∈ s.queues.toList, p x) ↔ ∃ q, p (s.queue q) := by
  simpa using not_congr (forall_queues_iff s (fun x => ¬p x))

/-- The guard refuses exactly the accesses that share a byte with a guarded ring. -/
theorem guarded_iff (s : State) (c : RequesterClass) (m : Addr) (L : BurstLength) :
    s.guarded c m L = true ↔ SharesGuardedByte s c m L := by
  rw [State.guarded, List.any_eq_true, exists_queues_iff, SharesGuardedByte]
  refine exists_congr (fun q => ?_)
  rw [Bool.and_eq_true, Bool.and_eq_true, decide_eq_true_eq, Bool.not_eq_true', inClasses, and_right_comm, and_assoc]
  refine and_congr_right (fun hsize => and_congr_right (fun _ => ?_))
  have hwords : 0 < 8 * L.val := by have := L.property.1; omega
  exact rangesMeet_iff hwords (by omega)

theorem guardAccess_refused_iff (s : State) (c : RequesterClass) (m : Addr) (L : BurstLength) :
    s.guardAccess c m L = .refused .guard ↔ s.guarded c m L = true :=
  Ne.ite_eq_left_iff (by simp)

theorem guardAccess_access_iff (s : State) (c : RequesterClass) (m : Addr) (L : BurstLength) :
    s.guardAccess c m L = .access m ↔ ¬s.guarded c m L = true :=
  Ne.ite_eq_right_iff (by simp)

/-- Settles O25: the guard's test of two ranges is a shared byte, and its answer is one of the two outcomes. -/
theorem guardKeepsAccessesOutOfTheRings : Obligations.GuardKeepsAccessesOutOfTheRings := by
  intro s c m L
  exact ⟨(guardAccess_access_iff s c m L).trans (not_congr (guarded_iff s c m L)),
    (guardAccess_refused_iff s c m L).trans (guarded_iff s c m L)⟩

end Sys2Proof.Machine.Laws

namespace Sys2Proof.Machine.Laws

open Sys2Proof Sys2Proof.Machine

/-! ### The taking test for a request that is stalled (R135, R149) -/

theorem canTake_eq_false {s : State} {q : Request} (h : s.link.softReset = true ∨ 64 ≤ s.sys.tracker.length ∨
    ∃ x ∈ s.sys.tracker, x.request.requester = q.requester ∧ x.request.tag = q.tag) : s.canTake q = false := by
  rw [← Bool.not_eq_true, canTake_iff]
  rintro ⟨hreset, hlen, hfresh⟩
  obtain hset | hfull | ⟨x, hx, hr, ht⟩ := h
  · rw [hreset] at hset
    cases hset
  · exact Nat.not_lt.2 hfull hlen
  · exact hfresh (List.mem_map.2 ⟨x, hx, Prod.ext hr ht⟩)

/-- A presented request that cannot be taken keeps itself and those behind it waiting. -/
theorem takePresented_of_stalled {s : State} {first : Request} (hfirst : s.sys.arrivals.head? = some first)
    (hc : s.canTake first = false) : s.takePresented = s := by
  obtain ⟨rest, harr⟩ := List.head?_eq_some_iff.1 hfirst
  rw [State.takePresented, harr, State.takeFrom, hc, if_neg Bool.false_ne_true]

/-- The only request not yet taken is taken, once it can be. -/
theorem takePresented_of_only {s : State} {q : Request} (ha : s.sys.arrivals = [q]) (hc : s.canTake q = true) :
    s.takePresented = (s.withSys { s.sys with arrivals := [] }).take q := by
  rw [State.takePresented, ha, State.takeFrom, if_pos hc, State.takeFrom]

/-- A response frees its tag and a place in the tracker (R138, R150). -/
theorem canTake_respondedTo {s : State} {q : Request} {x : Transaction} (hx : s.transaction q.requester q.tag = some x)
    (hreset : s.link.softReset = false) (hlen : s.sys.tracker.length ≤ 64) (status : Status) (data : List Word) :
    (s.respondedTo q.requester q.tag status data).canTake q = true := by
  have hnamed : x.named q.requester q.tag = true := (named_iff x _ _).2 (transaction_named hx)
  have hshorter : (s.sys.tracker.filter (fun y => !y.named q.requester q.tag)).length < s.sys.tracker.length :=
    List.length_filter_lt_length_iff_exists.2 ⟨x, transaction_mem hx, by rw [hnamed]; decide⟩
  refine (canTake_iff _ q).2 ⟨hreset, hshorter.trans_le hlen, fun hmem => ?_⟩
  obtain ⟨y, hy, hkey⟩ := List.mem_map.1 hmem
  obtain ⟨hr, ht⟩ := Prod.mk.inj hkey
  have hgone := (List.mem_filter.1 hy).2
  rw [(named_iff y _ _).2 ⟨hr, ht⟩] at hgone
  cases hgone

/-- A command that sends a response ends with the taking test (R135). -/
theorem finish_of_response {s : State} (hreset : s.link.softReset = false) (hs : s.sys.sent ≠ []) :
    s.finish = s.takePresented := by
  rw [State.finish, if_neg (by rw [softResetDone_of_clear s hreset]; decide), if_neg (by simpa using hs)]

/-! ### Beats (R137) -/

theorem exec_writeBeat {s : State} {r : Requester} {t : Tag} {x : Transaction} (hx : s.transaction r t = some x)
    (b : Beat) : exec (.writeBeat r t b) s = .next (s.clearOutputs.takeBeat x b).finish := by
  have hoffer : s.clearOutputs.offerBeat r t b = s.clearOutputs.takeBeat x b := by
    rw [State.offerBeat, clearOutputs_transaction, hx]
  exact congrArg (fun u : State => Host.Outcome.next u.finish) hoffer

section TakeBeat

variable {x : Transaction} (s : State) (b : Beat)

/-- No beat beyond the length of the transaction is taken (R22). -/
theorem takeBeat_of_all_in (h : x.received = x.request.beats.val) : s.takeBeat x b = s := by
  rw [State.takeBeat, if_neg (Nat.not_lt.2 h.ge)]

/-- No beat of a held push is taken (R22). -/
theorem takeBeat_waiting (hm : x.beatMode = some .waiting) : s.takeBeat x b = s := by
  simp only [State.takeBeat, hm, ite_self]

theorem takeBeat_gathering (hm : x.beatMode = some .gathering) (h : x.received < x.request.beats.val) :
    s.takeBeat x b = s.gatherBeat { x with received := x.received + 1 } b := by
  simp only [State.takeBeat, if_pos h, hm]

theorem takeBeat_dropping (hm : x.beatMode = some .dropping) (h : x.received < x.request.beats.val) :
    s.takeBeat x b = s.dropBeat { x with received := x.received + 1 } := by
  simp only [State.takeBeat, if_pos h, hm]

/-- A beat of a pass-through write is stored, and the last one presents the write (R141). -/
theorem gatherBeat_access {m : Addr} (hd : x.decoded = .access m) : s.gatherBeat x b =
    if x.beatsIn then s.passThroughWrite { x with gathered := x.gathered ++ [b] } m
    else s.setTransaction { x with gathered := x.gathered ++ [b] } := by
  cases x
  cases hd
  rfl

theorem dropBeat_drops {a : Answer} (ha : x.answer = some a) (hin : x.beatsIn = false) :
    s.dropBeat x = s.setTransaction x := by
  simp only [State.dropBeat, ha, hin, Bool.false_eq_true, if_false]

/-- The last dropped beat sends the answer that was kept (R138). -/
theorem dropBeat_sends {a : Answer} (ha : x.answer = some a) (hin : x.beatsIn = true) :
    s.dropBeat x = s.respondedTo x.request.requester x.request.tag a.status a.data := by
  simp only [State.dropBeat, ha, hin, if_true]
  rfl

end TakeBeat

/-- The last beat of a write in DROPPING: its kept answer is sent (R137, R138). -/
theorem exec_writeBeat_dropped_last {s : State} {r : Requester} {t : Tag} {x : Transaction} {a : Answer} (b : Beat)
    (hx : s.transaction r t = some x) (hm : x.beatMode = some .dropping) (ha : x.answer = some a)
    (hlast : x.received + 1 = x.request.beats.val) :
    exec (.writeBeat r t b) s = .next (s.clearOutputs.respondedTo r t a.status a.data).finish := by
  obtain ⟨rfl, rfl⟩ := transaction_named hx
  rw [exec_writeBeat hx, takeBeat_dropping _ b hm (Nat.lt_of_succ_le hlast.le),
    dropBeat_sends _ (x := { x with received := x.received + 1 }) ha ((beatsIn_iff _).2 (.inr hlast))]

/-- Settles O21: the test fails for the presented request, and holds for it once the response has freed its tag. -/
theorem stalledRequestWaitsForItsTag : Obligations.StalledRequestWaitsForItsTag := by
  refine ⟨fun s q first hfirst hdue hstall => ?_, fun s x a b q hx hm ha _ hlast harr hreset hlen => ?_⟩
  · have hstalled := takePresented_of_stalled
      (s := s.clearOutputs.withSys { s.clearOutputs.sys with arrivals := s.sys.arrivals ++ [q] }) hfirst
      (canTake_eq_false hstall)
    calc exec (.takeRequest q) s
        = .next (s.clearOutputs.presentRequest q) :=
          congrArg _ (presentAndArbitrate_of_not_due (s := s.clearOutputs) q hdue)
      _ = .next (s.clearOutputs.withSys { s.sys with arrivals := s.sys.arrivals ++ [q], sent := [] }) :=
          congrArg _ hstalled
  · have hcan : (s.clearOutputs.respondedTo q.requester q.tag a.status a.data).canTake q = true :=
      canTake_respondedTo (s := s.clearOutputs) hx hreset hlen _ _
    have hfinish := finish_of_response (s := s.clearOutputs.respondedTo q.requester q.tag a.status a.data) hreset
      (List.concat_ne_nil _ _)
    have htake := takePresented_of_only (s := s.clearOutputs.respondedTo q.requester q.tag a.status a.data) harr hcan
    rw [exec_writeBeat_dropped_last b hx hm ha hlast, hfinish, htake]

/-- Settles O26: each beat mode's own operation, and a command that sends nothing ends there. -/
theorem beatModeDecidesWhatABeatDoes : Obligations.BeatModeDecidesWhatABeatDoes := by
  refine ⟨?_, ?_, ?_⟩
  · intro s r t b x m hx hdir hm hd
    obtain ⟨hr, ht⟩ := transaction_named hx
    refine ⟨fun hmore => ?_, fun hlast => ?_⟩
    · rw [exec_writeBeat hx, takeBeat_gathering _ b hm (Nat.lt_of_succ_lt hmore),
        gatherBeat_access _ b (x := { x with received := x.received + 1 }) hd,
        if_neg (Bool.eq_false_iff.1 (beatsIn_of_missing (x := { x with received := x.received + 1 }) hdir hmore))]
      exact congrArg _ (finish_of_tracked hx rfl)
    · rw [exec_writeBeat hx, takeBeat_gathering _ b hm (Nat.lt_of_succ_le hlast.le),
        gatherBeat_access _ b (x := { x with received := x.received + 1 }) hd, if_pos ((beatsIn_iff _).2 (.inr hlast)),
        State.passThroughWrite, List.length_append, List.length_singleton, hr, ht]
      exact congrArg _ (finish_of_tracked hx rfl)
  · intro s r t b x a hx hdir hm ha
    refine ⟨fun hmore => ?_, fun hlast harr hreset => ?_⟩
    · rw [exec_writeBeat hx, takeBeat_dropping _ b hm (Nat.lt_of_succ_lt hmore),
        dropBeat_drops _ (x := { x with received := x.received + 1 }) ha (beatsIn_of_missing hdir hmore)]
      exact congrArg _ (finish_of_tracked hx rfl)
    · rw [exec_writeBeat_dropped_last b hx hm ha hlast]
      exact congrArg _ (finish_of_no_arrival _ harr hreset)
  · intro s r t b x hx h
    have hnot : s.clearOutputs.takeBeat x b = s.clearOutputs :=
      h.elim (takeBeat_waiting _ b) (takeBeat_of_all_in _ b)
    rw [exec_writeBeat hx, hnot]
    exact congrArg _ (finish_of_no_response _ rfl (softResetDone_of_tracked _ (tracker_ne_nil hx)))

end Sys2Proof.Machine.Laws

namespace Sys2Proof.Machine.Laws

open Sys2Proof Sys2Proof.Machine

/-! ### Requests carried to memory or refused (R119, R124, R136, R140) -/

/-- A request is taken, tracked with the beat mode of its outcome, and carried by that outcome (R119, R134, R137). -/
theorem exec_takeRequest_carries {s : State} {r : Request} {d : Decoded} (h : s.takes r) (ho : s.outcome r = d) :
    exec (.takeRequest r) s = .next ((s.clearOutputs.tracked r d (initialBeatMode r d)).carry r d) := by
  have hout : s.clearOutputs.outcome r = d := ho
  rw [exec_takeRequest h, State.take, hout]
  rfl

theorem declineAddress_tracked {s : State} {r : Request} (hc : s.canTake r = true) (d : Decoded) (m : Option BeatMode)
    (reason : Reason) : (s.tracked r d m).declineAddress r reason =
      (s.turnedAway r d .decline reason).appendLog (addressLogEntry reason r) := by
  have h := answer_tracked (s := s.appendLog (addressLogEntry reason r)) hc d m (status := .decline) (by decide) reason
  rw [turnedAway_appendLog] at h
  exact h

/-- A request that fails a form check is refused by the port, with the reason of that check (R136). -/
theorem exec_takeRequest_portRefused {s : State} {r : Request} {reason : Reason} (h : s.takes r)
    (hf : formCheck r = some reason) : exec (.takeRequest r) s =
      .next ((s.clearOutputs.turnedAway r .portRefused .decline reason).appendLog (addressLogEntry reason r)) := by
  have hout : s.outcome r = .portRefused := by rw [State.outcome, hf]
  rw [exec_takeRequest_carries h hout, State.carry, hf]
  exact congrArg _ (declineAddress_tracked (s := s.clearOutputs) (canTake_of_takes h) _ _ reason)

/-- Settles O22: the port or the decode refuses the request as it is taken. -/
theorem refusedRequestIsAnsweredAtOnce : Obligations.RefusedRequestIsAnsweredAtOnce := by
  refine ⟨fun s q h => ⟨fun halign => ?_, fun halign hpage => ?_⟩, fun s q reason h hw hd => ?_⟩
  · exact exec_takeRequest_portRefused h (by rw [formCheck, if_pos halign])
  · exact exec_takeRequest_portRefused h (by rw [formCheck, if_neg (not_not.2 halign), if_pos hpage])
  · rw [exec_takeRequest_carries h ((outcome_of_wellPlaced s hw).trans hd), State.carry]
    exact congrArg _ (declineAddress_tracked (s := s.clearOutputs) (canTake_of_takes h) _ _ reason)

/-- Settles O23: the outcome is a memory access, which a read makes at once and a write when its beats are in. -/
theorem accessIsCarriedToMemory : Obligations.AccessIsCarriedToMemory := by
  intro s q m h hw hd
  have hexec := exec_takeRequest_carries h ((outcome_of_wellPlaced s hw).trans hd)
  refine ⟨fun hdir => ?_, fun hdir => ?_⟩
  · simp only [hexec, initialBeatMode, State.carry, hdir]
    rfl
  · simp only [hexec, initialBeatMode, State.carry, hdir]

end Sys2Proof.Machine.Laws

namespace Sys2Proof.Machine.Laws

open Sys2Proof Sys2Proof.Machine

/-! ### Passage (R143 to R145) -/

theorem source_bounds (o : Owner) : 1 ≤ o.source ∧ o.source ≤ 5 := by
  cases o <;> simp [Owner.source]

/-- The arbiter's fixed order, cut at one of its sources (R145). -/
theorem sources_split {k : Nat} (h : 1 ≤ k ∧ k ≤ 5) :
    [1, 2, 3, 4, 5] = List.range' 1 (k - 1) ++ k :: List.range' (k + 1) (5 - k) := by
  obtain ⟨hlow, hhigh⟩ := h
  interval_cases k <;> rfl

/-- The next request is the earliest presented of the first source that has one (R145). -/
theorem nextWaiting_of_first {m : MemoryPort} {r : MemRequest} {before after : List MemRequest}
    (hw : m.waiting = before ++ r :: after) (hbefore : ∀ k ∈ before, r.owner.source < k.owner.source)
    (hafter : ∀ k ∈ after, r.owner.source ≤ k.owner.source) : m.nextWaiting = some r := by
  refine List.findSome?_eq_some_iff.2 ⟨_, _, _, sources_split (source_bounds r.owner), ?_, fun i hi => ?_⟩
  · rw [hw, List.find?_eq_some_iff_append]
    refine ⟨decide_eq_true rfl, before, after, rfl, fun k hk => ?_⟩
    simpa using (hbefore k hk).ne'
  · have hlow : i < r.owner.source := by
      have := source_bounds r.owner
      obtain ⟨-, hlt⟩ := List.mem_range'_1.1 hi
      omega
    rw [hw, List.find?_eq_none]
    intro k hk
    have hle : r.owner.source ≤ k.owner.source := by
      obtain hk | hk := List.mem_append.1 hk
      · exact (hbefore k hk).le
      · obtain rfl | hk := List.mem_cons.1 hk
        · exact le_rfl
        · exact hafter k hk
    simpa using (hlow.trans_le hle).ne'

theorem holds_eq_false_iff (m : MemoryPort) (n : Nat) : m.holds n = false ↔ ∀ p ∈ m.passed, p.number ≠ n := by
  simp [MemoryPort.holds]

/-- While fewer than 96 requests are outstanding, a number is free (R143, R144). -/
theorem freeNumber_of_lt {m : MemoryPort} (h : m.passed.length < 96) (n : Nat) : ∃ k, m.freeNumber n = some k := by
  by_contra hnone
  have hheld : List.range 96 ⊆ m.passed.map Passed.number := by
    intro k hk
    have hmem : k ∈ (List.range 96).map (fun i => (n + i) % 96) := by
      have hlt := List.mem_range.1 hk
      exact List.mem_map.2 ⟨(k + (96 - n % 96)) % 96, List.mem_range.2 (by omega), by omega⟩
    have hfound := List.find?_eq_none.1 (Option.eq_none_iff_forall_ne_some.2 (not_exists.1 hnone)) k hmem
    simpa [MemoryPort.holds] using hfound
  have hcount := (List.nodup_range.subperm hheld).length_le
  rw [List.length_range, List.length_map] at hcount
  exact Nat.not_lt.2 hcount h

/-- Settles O42: the arbiter's order picks the request, and fewer than 96 outstanding requests leave a number free. -/
theorem passageTakesTheEarliestOfTheFirstSource : Obligations.PassageTakesTheEarliestOfTheFirstSource := by
  refine ⟨fun s number r before after hlen hw hbefore hafter => ?_, fun s number hfull => ?_⟩
  · obtain ⟨n, hn⟩ := freeNumber_of_lt hlen number
    obtain ⟨hbound, hfree⟩ := freeNumber_some hn
    have hnot : r ∉ before := fun hr => Nat.lt_irrefl _ (hbefore r hr)
    have herase : s.mem.waiting.erase r = before ++ after := by
      rw [hw, List.erase_append_right _ hnot, List.erase_cons_head]
    have hnext : s.clearOutputs.mem.nextWaiting = some r := nextWaiting_of_first hw hbefore hafter
    have hnumber : s.clearOutputs.mem.freeNumber number = some n := hn
    have hpass : s.clearOutputs.passage number = s.clearOutputs.withMem (s.clearOutputs.mem.pass r n) := by
      rw [State.passage, if_pos (show s.clearOutputs.outstanding < Config.requestNumbers from hlen), hnext, hnumber]
    refine ⟨n, hbound, (holds_eq_false_iff _ _).1 hfree, congrArg _ (hpass.trans ?_)⟩
    rw [← herase]
    rfl
  · have hnone : s.clearOutputs.passage number = s.clearOutputs := if_neg (Nat.not_lt.2 hfull)
    exact congrArg _ hnone

/-! ### Completions (R143, R148) -/

/-- A completion whose number no outstanding request holds does nothing. -/
theorem complete_of_unknown {s : State} {n : Nat} (h : ∀ p ∈ s.mem.passed, p.number ≠ n) (status : MemStatus)
    (data : List Word) : s.complete n status data = s := by
  have hheld : s.mem.held n = none := List.find?_eq_none.2 (fun p hp => by simpa using h p hp)
  rw [State.complete, hheld]

/-- Settles O43: every completion row asks the same question of its number. -/
theorem unknownCompletionIsDiscarded : Obligations.UnknownCompletionIsDiscarded := by
  intro s n status data h
  have hnone : ∀ status data, Host.Outcome.next (s.clearOutputs.complete n status data) =
      (.next s.clearOutputs : Host.Outcome State Fault Refusal) :=
    fun status data => congrArg _ (complete_of_unknown (s := s.clearOutputs) h status data)
  exact ⟨hnone status data, hnone .ok [], hnone .error [], hnone .ok [], hnone .error [], hnone .ok data,
    hnone .error [], hnone status data, hnone status [], hnone status []⟩

/-! ### Pass-through accesses (R140 to R142) -/

/-- The completion of a pass-through access is routed to its transaction (R143). -/
theorem complete_passThrough {s : State} {n : Nat} {r : MemRequest} {k : Requester} {t : Tag} {x : Transaction}
    (ha : s.awaits n r) (ho : r.owner = .passThrough k t) (hx : s.transaction k t = some x) (status : MemStatus)
    (data : List Word) : s.clearOutputs.complete n status data =
      ((s.clearOutputs.numberFreed n).passThroughCompletes x r.words status data).finish := by
  have hheld : s.clearOutputs.mem.held n = some ⟨n, r⟩ := ha
  have hentry : (s.clearOutputs.numberFreed n).transaction k t = some x := hx
  simp only [State.complete, hheld]
  show ((s.clearOutputs.numberFreed n).route r status data).finish = _
  simp only [State.route, ho, hentry]

/-- A transaction whose beats are in is declined by a response and a log entry with its address (R142, R172). -/
theorem declineAddress_of_beatsIn {s : State} {x : Transaction}
    (hx : s.transaction x.request.requester x.request.tag = some x) (hnone : x.answer = none) (hin : x.beatsIn = true)
    (reason : Reason) : s.declineAddress x.request reason =
      (s.respondedTo x.request.requester x.request.tag .decline (answerData x.request .decline [])).appendLog
        (addressLogEntry reason x.request) :=
  answer_sent (s := s.appendLog (addressLogEntry reason x.request)) hx hnone hin .decline (some reason) []

/-- A pass-through write that completes OK has no data to answer with (R141). -/
theorem passThroughCompletes_write_ok (s : State) {x : Transaction} (hdir : x.request.direction = .write) (words : Nat)
    (data : List Word) :
    s.passThroughCompletes x words .ok data = s.answerOk x.request.requester x.request.tag [] := by
  simp only [State.passThroughCompletes, hdir]

/-- A pass-through read that completes OK with every word it asked for answers with those words (R140). -/
theorem passThroughCompletes_read_ok (s : State) {x : Transaction} (hdir : x.request.direction = .read)
    (data : List Word) : s.passThroughCompletes x data.length .ok data =
      s.answerOk x.request.requester x.request.tag data := by
  simp only [State.passThroughCompletes, hdir, noteMissing_full, completionWords_full]

/-- Settles O44: the access is answered OK, or DECLINE with its log entry, and with nothing stalled the event ends there. -/
theorem passThroughAccessIsAnswered : Obligations.PassThroughAccessIsAnswered := by
  refine ⟨fun s n status data r t m x ha hx hdir hnone harr hreset => ?_,
    fun s n status r t m beats x ha hx hdir hin hnone harr hreset => ?_⟩
  · have hexec : exec (.passThroughReadCompletion n status data) s =
        .next ((s.clearOutputs.numberFreed n).passThroughCompletes x x.request.beats.val status data).finish :=
      congrArg _ (complete_passThrough ha rfl hx status data)
    obtain ⟨rfl, rfl⟩ := transaction_named hx
    have hfreed : (s.clearOutputs.numberFreed n).transaction x.request.requester x.request.tag = some x := hx
    refine ⟨?_, ?_⟩
    · rintro rfl hlen
      rw [hexec, ← hlen, passThroughCompletes_read_ok _ hdir, answerOk_of_read hfreed hdir hnone]
      exact congrArg _ (finish_of_no_arrival _ harr hreset)
    · rintro rfl
      rw [hexec, State.passThroughCompletes, declineAddress_of_beatsIn hfreed hnone ((beatsIn_iff x).2 (.inl hdir)),
        answerData_read hdir (by decide)]
      exact congrArg _ (finish_of_no_arrival _ harr hreset)
  · have hexec : exec (.passThroughWriteCompletion n status) s =
        .next ((s.clearOutputs.numberFreed n).passThroughCompletes x x.request.beats.val status []).finish :=
      congrArg _ (complete_passThrough ha rfl hx status [])
    obtain ⟨rfl, rfl⟩ := transaction_named hx
    have hfreed : (s.clearOutputs.numberFreed n).transaction x.request.requester x.request.tag = some x := hx
    refine ⟨?_, ?_⟩
    · rintro rfl
      rw [hexec, passThroughCompletes_write_ok _ hdir, State.answerOk,
        answer_of_writeReady ⟨x, hfreed, hdir, hin, hnone⟩]
      exact congrArg _ (finish_of_no_arrival _ harr hreset)
    · rintro rfl
      rw [hexec, State.passThroughCompletes, declineAddress_of_beatsIn hfreed hnone ((beatsIn_iff x).2 (.inr hin)),
        answerData_write hdir]
      exact congrArg _ (finish_of_no_arrival _ harr hreset)

end Sys2Proof.Machine.Laws

namespace Sys2Proof.Machine.Laws

open Sys2Proof Sys2Proof.Machine

/-! ### What the STOPs of other queues leave of a queue (R42, R95, R106) -/

/-- The context, the reservation entries and the waiting payload writes of queue q stand in t as in s. -/
structure SameAt (q : QueueId) (s t : State) : Prop where
  queue     : t.queue q = s.queue q
  entries   : t.entriesOf q = s.entriesOf q
  withdrawn : ∀ e, t.withdrawnWrites q e = s.withdrawnWrites q e

theorem SameAt.refl (q : QueueId) (s : State) : SameAt q s s := ⟨rfl, rfl, fun _ => rfl⟩

theorem SameAt.trans {q : QueueId} {s t u : State} (h : SameAt q s t) (k : SameAt q t u) : SameAt q s u :=
  ⟨k.queue.trans h.queue, k.entries.trans h.entries, fun e => (k.withdrawn e).trans (h.withdrawn e)⟩

theorem SameAt.stoppedIn {q : QueueId} {s t : State} (h : SameAt q s t) {e : Entry} (he : e ∈ s.entriesOf q) :
    stoppedIn t e = stoppedIn s e := by
  rw [Laws.stoppedIn, Laws.stoppedIn, payloadWaiting_eq, payloadWaiting_eq, entriesOf_queue he, h.withdrawn]

theorem SameAt.resolvedByStop {q : QueueId} {s t : State} (h : SameAt q s t) : t.resolvedByStop q = s.resolvedByStop q := by
  simp only [State.resolvedByStop, h.entries, h.withdrawn]

theorem SameAt.stopLogEntries {q : QueueId} {s t : State} (h : SameAt q s t) : t.stopLogEntries q = s.stopLogEntries q := by
  simp only [State.stopLogEntries, h.queue, h.resolvedByStop]

/-- The resolution of other queues' entries. -/
theorem resolveStopped_entriesOf {q : QueueId} {es : List Entry} (h : ∀ e ∈ es, e.queue ≠ q) (s : State) :
    (es.foldl State.resolveStopped s).entriesOf q = s.entriesOf q := by
  refine List.foldlRecOn (motive := fun u : State => u.entriesOf q = s.entriesOf q) es _ rfl (fun u hu e he => ?_)
  rw [← hu, State.resolveStopped, State.entriesOf, freeEntry_reservations,
    (answersOnly_decline u e.requester e.tag e.abandonedLog).reservations, List.filter_filter]
  refine List.filter_congr (fun y _ => ?_)
  by_cases hy : y.queue = q
  · have hne : e.queue ≠ y.queue := hy ▸ h e he
    simp [Entry.same, hy, hy ▸ hne]
  · simp [hy]

theorem stoppedEntries_entriesOf_other (s : State) {q k : QueueId} (h : q ≠ k) :
    (s.stoppedEntries k).filter (fun e => decide (e.queue = q)) = s.entriesOf q := by
  have hqueue : ∀ e : Entry, (if e.queue = k then e.stopped (s.mem.payloadWaiting e) else e).queue = e.queue := by
    intro e
    split
    · exact stopped_queue e _
    · rfl
  rw [State.stoppedEntries, List.filter_map, List.filter_filter, State.entriesOf]
  have hkept : s.reservations.filter (fun e => (((fun e : Entry => decide (e.queue = q)) ∘
      fun e : Entry => if e.queue = k then e.stopped (s.mem.payloadWaiting e) else e) e) &&
        !(decide (e.queue = k) && e.stopFrees)) = s.reservations.filter (fun e => decide (e.queue = q)) := by
    refine List.filter_congr (fun e _ => ?_)
    rw [Function.comp_apply, hqueue]
    by_cases hq : e.queue = q
    · simp [hq, h]
    · simp [hq]
  rw [hkept]
  refine (List.map_congr_left (fun e he => ?_)).trans (List.map_id _)
  have hq : e.queue = q := of_decide_eq_true (List.mem_filter.1 he).2
  exact if_neg (hq ▸ h)

theorem sameAt_stopActs (s : State) {q k : QueueId} (h : q ≠ k) : SameAt q s (s.stopActs k) := by
  refine ⟨stopActs_queue_other s h, ?_, fun e => ?_⟩
  · rw [stopActs_eq, resolveStopped_entriesOf, State.entriesOf, (stopReleased_frame s k).2.2.1,
      stoppedEntries_entriesOf_other s h]
    intro e he
    obtain ⟨y, hy, rfl⟩ := List.mem_map.1 he
    rw [resolvedByStop_eq] at hy
    rw [stoppedIn, stopped_queue, entriesOf_queue (List.mem_filter.1 hy).1]
    exact h.symm
  · rw [State.withdrawnWrites, State.withdrawnWrites, stopActs_mem, List.filter_filter]
    refine congrArg List.length (List.filter_congr (fun r _ => ?_))
    by_cases hr : r.owner = .payload q e.start
    · simp [hr, h]
    · simp [hr]

theorem sameAt_testStop (s : State) {q k : QueueId} (h : q ≠ k) : SameAt q s (s.testStop k) := by
  refine ⟨testStop_queue_other s h, ?_, fun e => ?_⟩
  · rw [State.entriesOf, (testStop_frame s k).2.2.2, State.entriesOf]
  · rw [State.withdrawnWrites, testStop_mem, State.withdrawnWrites]

theorem sameAt_softResetStop (s : State) {q k : QueueId} (h : q ≠ k) : SameAt q s (s.softResetStop k) := by
  obtain ⟨-, he⟩ | ⟨-, he⟩ := softResetStop_cases s k
  · rw [he]
    exact .refl q s
  · rw [he]
    exact (sameAt_stopActs s h).trans (sameAt_testStop _ h)

theorem sameAt_softResetStops {q : QueueId} {qs : List QueueId} (h : q ∉ qs) (s : State) :
    SameAt q s (qs.foldl State.softResetStop s) :=
  List.foldlRecOn (motive := SameAt q s) qs _ (.refl q s)
    (fun u hu _ hk => hu.trans (sameAt_softResetStop u (fun hqk => h (hqk ▸ hk))))

/-! ### The log and the waiting memory requests after the STOPs (R42, R146, R174) -/

/-- A queue that a soft reset leaves as it is (R106). -/
def leftByReset (x : Queue) : Bool := decide (x.state = .stopped) || decide (x.state = .stopping)

theorem leftByReset_iff (x : Queue) : leftByReset x = true ↔ x.state = .stopped ∨ x.state = .stopping := by simp [leftByReset]

theorem stoppable_iff (s : State) (q : QueueId) : s.stoppable q ↔ leftByReset (s.queue q) = false := by
  unfold State.stoppable leftByReset
  cases (s.queue q).state <;> decide

theorem softResetStop_of_left {s : State} {q : QueueId} (h : leftByReset (s.queue q) = true) : s.softResetStop q = s := by
  obtain ⟨-, he⟩ | ⟨⟨hs, hs'⟩, -⟩ := softResetStop_cases s q
  · exact he
  · exact absurd ((leftByReset_iff _).1 h) (not_or.2 ⟨hs, hs'⟩)

theorem softResetStop_of_not_left {s : State} {q : QueueId} (h : leftByReset (s.queue q) = false) :
    s.softResetStop q = (s.stopActs q).testStop q := by
  obtain ⟨hs, -⟩ | ⟨-, he⟩ := softResetStop_cases s q
  · rw [(leftByReset_iff _).2 hs] at h
    cases h
  · exact he

/-- The log entries of the STOP that a soft reset gives to queue q. -/
def resetLogEntries (s : State) (q : QueueId) : List LogEntry := if leftByReset (s.queue q) then [] else s.stopLogEntries q

theorem softResetStop_log (s : State) (q : QueueId) :
    (s.softResetStop q).log = s.log.appendAll (resetLogEntries s q) := by
  unfold resetLogEntries
  cases h : leftByReset (s.queue q) with
  | true => rw [softResetStop_of_left h]; rfl
  | false => rw [softResetStop_of_not_left h, (testStop_frame _ q).2.2.1, stopActs_log]; rfl

/-- Does a memory request stay at the arbiter through the STOP that a soft reset gives to queue q (R42)? -/
def staysAtReset (s : State) (q : QueueId) (r : MemRequest) : Bool := !r.payloadOf q || leftByReset (s.queue q)

theorem softResetStop_mem (s : State) (q : QueueId) :
    (s.softResetStop q).mem = { s.mem with waiting := s.mem.waiting.filter (staysAtReset s q) } := by
  cases h : leftByReset (s.queue q) with
  | true =>
    have hall : s.mem.waiting.filter (staysAtReset s q) = s.mem.waiting :=
      List.filter_eq_self.2 (fun r _ => by simp [staysAtReset, h])
    rw [softResetStop_of_left h, hall]
  | false =>
    rw [softResetStop_of_not_left h, testStop_mem, stopActs_mem]
    refine congrArg (fun l => { s.mem with waiting := l }) (List.filter_congr (fun r _ => ?_))
    unfold staysAtReset MemRequest.payloadOf
    rw [h]
    cases r.owner <;> simp

/-- The log and the waiting requests after the STOPs of a list of queues, each queue's share read off the state before. -/
theorem softResetStops_log_mem {qs : List QueueId} (h : qs.Nodup) (s : State) :
    (qs.foldl State.softResetStop s).log = s.log.appendAll (qs.flatMap (resetLogEntries s)) ∧
      (qs.foldl State.softResetStop s).mem = { s.mem with
        waiting := s.mem.waiting.filter (fun r => qs.all (fun q => staysAtReset s q r)) } := by
  induction qs generalizing s with
  | nil => exact ⟨rfl, by simp⟩
  | cons k qs ih =>
    obtain ⟨hk, hqs⟩ := List.nodup_cons.1 h
    have hsame : ∀ q ∈ qs, SameAt q s (s.softResetStop k) := fun q hq =>
      sameAt_softResetStop s (fun hqk => hk (hqk ▸ hq))
    have hentries : qs.flatMap (resetLogEntries (s.softResetStop k)) = qs.flatMap (resetLogEntries s) :=
      List.flatMap_congr (fun q hq => by
        rw [resetLogEntries, resetLogEntries, (hsame q hq).queue, (hsame q hq).stopLogEntries])
    have hstays : ∀ r : MemRequest, qs.all (fun q => staysAtReset (s.softResetStop k) q r) =
        qs.all (fun q => staysAtReset s q r) := fun r =>
      Bool.eq_iff_iff.2 (by
        rw [List.all_eq_true, List.all_eq_true]
        exact forall₂_congr (fun q hq => by rw [staysAtReset, staysAtReset, (hsame q hq).queue]))
    obtain ⟨hlog, hmem⟩ := ih hqs (s.softResetStop k)
    refine ⟨?_, ?_⟩
    · rw [List.foldl_cons, hlog, hentries, softResetStop_log, List.flatMap_cons, appendAll_append]
    · rw [List.foldl_cons, hmem, softResetStop_mem, List.filter_filter]
      simp only [hstays, List.all_cons, Bool.and_comm]

/-! ### The tables in a soft reset -/

theorem stopActs_tables (s : State) (q : QueueId) :
    (s.stopActs q).windows = s.windows ∧ (s.stopActs q).classes = s.classes := by
  have hreleased := answersOnly_releaseAll (s.modifyQueue q Queue.stopping) q .state
  rw [stopActs_eq]
  refine List.foldlRecOn (motive := fun u : State => u.windows = s.windows ∧ u.classes = s.classes) _ _
    ⟨hreleased.windows, hreleased.classes⟩ (fun u ⟨hw, hc⟩ e _ => ?_)
  have hdecline := answersOnly_decline u e.requester e.tag e.abandonedLog
  exact ⟨hdecline.windows.trans hw, hdecline.classes.trans hc⟩

/-- A soft reset leaves the tables and the requests at the port as they are. -/
theorem softResetStop_frame (s : State) (q : QueueId) : (s.softResetStop q).windows = s.windows ∧
    (s.softResetStop q).classes = s.classes ∧ (s.softResetStop q).sys.arrivals = s.sys.arrivals := by
  cases h : leftByReset (s.queue q) with
  | true => rw [softResetStop_of_left h]; exact ⟨rfl, rfl, rfl⟩
  | false =>
    obtain ⟨hw, hc⟩ := stopActs_tables s q
    have htest := Course.testStop (s.stopActs q) q
    rw [softResetStop_of_not_left h]
    exact ⟨htest.windows.trans hw, htest.classes.trans hc, by rw [(testStop_frame _ q).1, stopActs_arrivals]⟩

theorem softResetStops_frame (s : State) : s.softResetStops.windows = s.windows ∧ s.softResetStops.classes = s.classes ∧
    s.softResetStops.sys.arrivals = s.sys.arrivals ∧ s.softResetStops.link = s.link := by
  unfold State.softResetStops
  generalize List.finRange 16 = qs
  refine List.foldlRecOn (motive := fun u : State => u.windows = s.windows ∧ u.classes = s.classes ∧
    u.sys.arrivals = s.sys.arrivals ∧ u.link = s.link) qs _ ⟨rfl, rfl, rfl, rfl⟩ (fun u ⟨hw, hc, ha, hl⟩ q _ => ?_)
  obtain ⟨hw', hc', ha'⟩ := softResetStop_frame u q
  exact ⟨hw'.trans hw, hc'.trans hc, ha'.trans ha, (softResetStop_link u q).trans hl⟩

end Sys2Proof.Machine.Laws

namespace Sys2Proof.Machine.Laws

open Sys2Proof Sys2Proof.Machine

/-! ### Requests declined in the course of a soft reset (R83, R138, R149) -/

theorem StandsOrDeclined.decline_other {x : Transaction} {reason : Reason} {u : State} (h : StandsOrDeclined x reason u)
    {r : Requester} {t : Tag} (hn : ¬(x.request.requester = r ∧ x.request.tag = t)) (l : LogEntry) :
    StandsOrDeclined x reason (u.decline r t l) :=
  h.imp (fun hx => (transaction_answer_other (u.appendLog l) hn _ _ _).trans hx) (fun hd => hd.decline r t l)

/-- No resolution of a STOP can keep an answer for x with a reason other than its own: x has its beats, or no entry has its
requester and tag. -/
def KeepsItsReason (x : Transaction) (u : State) : Prop :=
  x.beatsIn = true ∨ ∀ e ∈ u.reservations, ¬(x.request.requester = e.requester ∧ x.request.tag = e.tag)

/-- STOP makes no entry with a new name. -/
theorem stopReleased_names {s : State} {q : QueueId} {y : Entry} (h : y ∈ (stopReleased s q).reservations) :
    ∃ e ∈ s.reservations, y.requester = e.requester ∧ y.tag = e.tag := by
  rw [(stopReleased_frame s q).2.2.1, State.stoppedEntries] at h
  obtain ⟨e, he, rfl⟩ := List.mem_map.1 h
  refine ⟨e, (List.mem_filter.1 he).1, ?_⟩
  split
  · exact ⟨stopped_requester e _, stopped_tag e _⟩
  · exact ⟨rfl, rfl⟩

theorem KeepsItsReason.stopActs {x : Transaction} {u : State} (h : KeepsItsReason x u) (q : QueueId) :
    KeepsItsReason x (u.stopActs q) := by
  refine h.imp id (fun hnone y hy => ?_)
  rw [stopActs_eq, mem_resolveStopped] at hy
  obtain ⟨e, he, hr, ht⟩ := stopReleased_names hy.1
  rw [hr, ht]
  exact hnone e he

theorem KeepsItsReason.of_reservations {x : Transaction} {u v : State} (h : KeepsItsReason x u)
    (hr : v.reservations = u.reservations) : KeepsItsReason x v := by
  rw [KeepsItsReason, hr]
  exact h

section Stop

variable {x : Transaction} {u : State} (hnone : x.answer = none) (h : StandsOrDeclined x .state u)

include hnone h

theorem StandsOrDeclined.stopReleased (q : QueueId) : StandsOrDeclined x .state (stopReleased u q) :=
  ((h.of_sys (v := u.modifyQueue q Queue.stopping) rfl).releaseAll hnone q).of_sys rfl

theorem StandsOrDeclined.stopActs (hk : KeepsItsReason x u) (q : QueueId) : StandsOrDeclined x .state (u.stopActs q) := by
  rw [stopActs_eq]
  refine List.foldlRecOn _ _ (h.stopReleased hnone q) (fun v hv e he => ?_)
  obtain ⟨k, hmem, rfl⟩ := List.mem_map.1 he
  obtain hb | hother := hk
  · exact hv.resolveStopped hnone hb _
  · rw [resolvedByStop_eq] at hmem
    have hname := hother k (mem_entriesOf.1 (List.mem_filter.1 hmem).1).1
    refine (hv.decline_other ?_ _).of_sys rfl
    rwa [stoppedIn, stopped_requester, stopped_tag]

/-- The waiters of the stopped queue are declined (R83). -/
theorem StandsOrDeclined.stopActs_waiter {q : QueueId} {w : Waiter} (hr : x.request.requester = w.requester)
    (ht : x.request.tag = w.tag) (hw : w ∈ (u.queue q).pushWaiters ∨ w ∈ (u.queue q).popWaiters) :
    Declined x .state (u.stopActs q) := by
  have hreleased : Declined x .state (Laws.stopReleased u q) :=
    ((h.of_sys (v := u.modifyQueue q Queue.stopping) rfl).releaseAll_declined hnone hr ht (q := q)
      (by rw [modifyQueue_queue_same]; exact hw)).of_sys rfl
  rw [stopActs_eq]
  exact List.foldlRecOn _ _ hreleased (fun _ hv e _ => (hv.decline e.requester e.tag e.abandonedLog).of_sys rfl)

/-- The producers of the entries that the STOP resolves are declined, their beats being in (R43). -/
theorem StandsOrDeclined.stopActs_resolved (hb : x.beatsIn = true) {q : QueueId} {e : Entry} (he : e ∈ u.resolvedByStop q)
    (hr : x.request.requester = e.requester) (ht : x.request.tag = e.tag) : Declined x .state (u.stopActs q) := by
  rw [stopActs_eq]
  exact (h.stopReleased hnone q).resolveStopped_declined hnone hb (List.mem_map_of_mem he)
    (hr.trans (stopped_requester e _).symm) (ht.trans (stopped_tag e _).symm)

end Stop

theorem Declined.stopActs {x : Transaction} {reason : Reason} {u : State} (h : Declined x reason u) (q : QueueId) :
    Declined x reason (u.stopActs q) := by
  have hreleased : Declined x reason (stopReleased u q) :=
    ((h.of_sys (v := u.modifyQueue q Queue.stopping) rfl).releaseAll q .state).of_sys rfl
  rw [stopActs_eq]
  exact List.foldlRecOn _ _ hreleased (fun _ hv e _ => (hv.decline e.requester e.tag e.abandonedLog).of_sys rfl)

theorem Declined.softResetStop {x : Transaction} {reason : Reason} {u : State} (h : Declined x reason u) (q : QueueId) :
    Declined x reason (u.softResetStop q) := by
  obtain ⟨-, he⟩ | ⟨-, he⟩ := softResetStop_cases u q
  · rwa [he]
  · rw [he]
    exact (h.stopActs q).of_sys (testStop_frame _ q).1

theorem StandsOrDeclined.softResetStop {x : Transaction} {u : State} (hnone : x.answer = none)
    (h : StandsOrDeclined x .state u ∧ KeepsItsReason x u) (q : QueueId) :
    StandsOrDeclined x .state (u.softResetStop q) ∧ KeepsItsReason x (u.softResetStop q) := by
  obtain ⟨-, he⟩ | ⟨-, he⟩ := softResetStop_cases u q
  · rwa [he]
  · obtain ⟨hsys, -, -, hentries⟩ := testStop_frame (u.stopActs q) q
    rw [he]
    exact ⟨(h.1.stopActs hnone h.2 q).of_sys hsys, (h.2.stopActs q).of_reservations hentries⟩

/-! ### A soft reset as seen from one queue (R106) -/

/-- u is the bridge as the STOPs of a soft reset come to queue q, s the bridge before them. -/
structure ReachedAt (q : QueueId) (s u : State) : Prop where
  before   : SameAt q s u
  after    : SameAt q (u.softResetStop q) s.softResetStops
  stands   : ∀ x, x.answer = none → StandsOrDeclined x .state s → KeepsItsReason x s → StandsOrDeclined x .state u
  declined : ∀ x, Declined x .state (u.softResetStop q) → Declined x .state s.softResetStops

theorem exists_reachedAt (q : QueueId) (s : State) : ∃ u, ReachedAt q s u := by
  obtain ⟨earlier, later, hall⟩ := List.append_of_mem (List.mem_finRange q)
  have hnodup : (earlier ++ q :: later).Nodup := hall ▸ List.nodup_finRange 16
  have hfresh : q ∉ earlier ++ later := (List.nodup_cons.1 (List.nodup_middle.1 hnodup)).1
  obtain ⟨hearlier, hlater⟩ := not_or.1 (mt List.mem_append.2 hfresh)
  have hsplit : s.softResetStops =
      later.foldl State.softResetStop ((earlier.foldl State.softResetStop s).softResetStop q) := by
    rw [State.softResetStops, hall, List.foldl_append, List.foldl_cons]
  refine ⟨earlier.foldl State.softResetStop s, sameAt_softResetStops hearlier s, ?_, fun x hnone hs hk => ?_, fun x hd => ?_⟩
  · rw [hsplit]
    exact sameAt_softResetStops hlater _
  · exact (List.foldlRecOn (motive := fun u => StandsOrDeclined x .state u ∧ KeepsItsReason x u) earlier _ ⟨hs, hk⟩
      (fun u hu k _ => StandsOrDeclined.softResetStop hnone hu k)).1
  · rw [hsplit]
    exact List.foldlRecOn later _ hd (fun u hu k _ => hu.softResetStop k)

section Reached

variable {q : QueueId} {s u : State} (h : ReachedAt q s u)

include h

/-- A queue that is STOPPED or STOPPING stays as it is (R106). -/
theorem ReachedAt.halted (hs : leftByReset (s.queue q) = true) : SameAt q s s.softResetStops := by
  have hafter := h.after
  rw [softResetStop_of_left (by rw [h.before.queue]; exact hs)] at hafter
  exact h.before.trans hafter

variable (hs : s.stoppable q)

include hs

theorem ReachedAt.stops : u.softResetStop q = (u.stopActs q).testStop q :=
  softResetStop_of_not_left (by rw [h.before.queue]; exact (stoppable_iff s q).1 hs)

theorem ReachedAt.entries : s.softResetStops.entriesOf q = (u.stopActs q).entriesOf q := by
  rw [h.after.entries, h.stops hs, State.entriesOf, (testStop_frame _ q).2.2.2, State.entriesOf]

/-- The queue ends in STOPPING, or in STOPPED where nothing of it is left (R95, R97). -/
theorem ReachedAt.queue :
    (s.softResetStops.entriesOf q ≠ [] ∨ (s.queue q).popEntries ≠ [] →
      s.softResetStops.queue q = (s.queue q).inStopping) ∧
    (s.softResetStops.entriesOf q = [] ∧ (s.queue q).popEntries = [] →
      s.softResetStops.queue q = (s.queue q).atStopped) := by
  have hacted : (u.stopActs q).queue q = (s.queue q).inStopping :=
    (stopActs_queue_same u q).trans (by rw [h.before.queue]; rfl)
  obtain ⟨hgoes, harrives⟩ := testStop_of_inStopping hacted
  rw [h.after.queue, h.after.entries, h.stops hs]
  exact ⟨fun hleft => by rw [hgoes hleft, hacted], fun hleft => by rw [harrives hleft, setQueue_queue_same]⟩

/-- The entries of the queue are acted on as by STOP (R42, R43). -/
theorem ReachedAt.acted (hd : ((s.entriesOf q).map (fun e => e.start)).Nodup) : s.stopActedOn s.softResetStops q := by
  have hmem : ∀ y : Entry, y.queue = q → (y ∈ s.softResetStops.reservations ↔ y ∈ (u.stopActs q).reservations) := by
    intro y hy
    have hiff : y ∈ s.softResetStops.entriesOf q ↔ y ∈ (u.stopActs q).entriesOf q := by rw [h.entries hs]
    simpa only [mem_entriesOf, hy, and_true] using hiff
  rw [← h.before.entries] at hd
  refine stopActedOn_of (fun e he hf hr => ?_) (fun e he hgone => ?_)
  · rw [← h.before.stoppedIn he] at hr ⊢
    exact (hmem _ ((stopped_queue e _).trans (entriesOf_queue he))).2
      (stopActs_keeps hd (h.before.entries ▸ he) hf hr)
  · rw [← h.before.stoppedIn he] at hgone
    refine List.find?_eq_none.2 (fun y hy => ?_)
    rw [decide_eq_true_eq]
    rintro ⟨hq, hp⟩
    exact stopActs_removes hd (h.before.entries ▸ he) hgone y ((hmem y hq).1 hy) ⟨hq, hp⟩

/-- The waiters of the queue are declined (R83, R149). -/
theorem ReachedAt.waiter {w : Waiter} (hw : w ∈ (s.queue q).pushWaiters ∨ w ∈ (s.queue q).popWaiters)
    (hname : ∀ e ∈ s.reservations, ¬(e.requester = w.requester ∧ e.tag = w.tag)) {x : Transaction}
    (hx : s.transaction w.requester w.tag = some x) (hnone : x.answer = none) : Declined x .state s.softResetStops := by
  obtain ⟨hr, ht⟩ := transaction_named hx
  have hstands : StandsOrDeclined x .state u := h.stands x hnone (.inl (by rw [hr, ht]; exact hx))
    (.inr (fun e he => by rw [hr, ht]; exact fun ⟨hr', ht'⟩ => hname e he ⟨hr'.symm, ht'.symm⟩))
  refine h.declined x ?_
  rw [h.stops hs]
  exact (hstands.stopActs_waiter hnone hr ht (by rw [h.before.queue]; exact hw)).of_sys (testStop_frame _ q).1

/-- The producer of an entry that the STOP resolves has been answered DECLINE (R43). -/
theorem ReachedAt.resolved {e : Entry} (he : e ∈ s.resolvedByStop q) (hw : s.writeReady e.requester e.tag) :
    (⟨e.requester, e.tag, .decline, []⟩ : Response) ∈ s.softResetStops.sys.sent := by
  have hbeats : ∀ x, s.transaction e.requester e.tag = some x → x.beatsIn = true := by
    obtain ⟨y, hy, -, hrec, -⟩ := hw
    intro x hx
    obtain rfl : y = x := Option.some.inj (hy.symm.trans hx)
    exact (beatsIn_iff y).2 (.inr hrec)
  refine mem_sent_of_writeReady (reason := .state) hw (fun x hx hnone => h.declined x ?_)
  obtain ⟨hr, ht⟩ := transaction_named hx
  have hstands := h.stands x hnone (.inl (by rw [hr, ht]; exact hx)) (.inl (hbeats x hx))
  rw [h.stops hs]
  exact (hstands.stopActs_resolved hnone (hbeats x hx) (h.before.resolvedByStop ▸ he) hr ht).of_sys (testStop_frame _ q).1

end Reached


/-! ### SOFT-RESET (R106, R167, R169) -/

/-- Where waiters wait only in active queues, the STOPs of a soft reset leave none, so that the freed entries are granted to
nobody. -/
theorem softResetEffect_state {s : State} (h : WaiterLaw s) (payload : List Byte) :
    (softResetEffect s payload).state = (s.withLink { s.link with softReset := true }).softResetStops := by
  obtain ⟨-, hnone⟩ := softResetStops_no_waiter (List.finRange 16) (s := s.withLink { s.link with softReset := true }) h
  obtain ⟨-, he⟩ | ⟨-, he⟩ := arbitrateIfFreed_cases (s.withLink { s.link with softReset := true })
    (s.withLink { s.link with softReset := true }).softResetStops
  · exact he.trans (entryFreed_of_no_waiter (fun q => (hnone q (.inl (List.mem_finRange q))).1))
  · exact he

/-- With nothing stalled at the port, a command in a soft reset ends with the test of R168, which may complete it (R169). -/
theorem finish_in_softReset {s : State} (hr : s.link.softReset = true) (ha : s.sys.arrivals = []) :
    ∃ flag log, s.finish = (s.withLog log).withLink { s.link with softReset := flag } ∧ (flag = false ↔ s.runDown) ∧
      (flag = false → log = ⟨[], 0⟩) ∧ (flag = true → log = s.log) := by
  by_cases hd : s.runDown
  · refine ⟨false, ⟨[], 0⟩, ?_, iff_of_true rfl hd, fun _ => rfl, Bool.noConfusion⟩
    rw [finish_of_runDown hr hd, takePresented_of_no_arrival (s := s.completeSoftReset) ha]
    rfl
  · refine ⟨true, s.log, ?_, iff_of_false Bool.noConfusion hd, Bool.noConfusion, fun _ => rfl⟩
    rw [finish_of_not_runDown hr hd, ← hr]
    rfl

/-- What the STOPs of a soft reset make of the bridge s (R106). -/
structure SoftResetStopped (s v : State) : Prop where
  halted   : ∀ q, (v.queue q).state = .stopping ∨ (v.queue q).state = .stopped
  windows  : v.windows = s.windows
  classes  : v.classes = s.classes
  arrivals : v.sys.arrivals = s.sys.arrivals
  link     : v.link = s.link
  log      : v.log = s.log.appendAll ((List.finRange 16).flatMap (resetLogEntries s))
  mem      : v.mem = { s.mem with
    waiting := s.mem.waiting.filter (fun r => (List.finRange 16).all (fun q => staysAtReset s q r)) }
  left     : ∀ q, leftByReset (s.queue q) = true → SameAt q s v
  queue    : ∀ q, s.stoppable q →
    (v.entriesOf q ≠ [] ∨ (s.queue q).popEntries ≠ [] → v.queue q = (s.queue q).inStopping) ∧
    (v.entriesOf q = [] ∧ (s.queue q).popEntries = [] → v.queue q = (s.queue q).atStopped)
  acted    : ∀ q, s.stoppable q → ((s.entriesOf q).map (fun e => e.start)).Nodup → s.stopActedOn v q
  waiters  : ∀ q, s.stoppable q → ∀ w, w ∈ (s.queue q).pushWaiters ∨ w ∈ (s.queue q).popWaiters →
    (∀ e ∈ s.reservations, ¬(e.requester = w.requester ∧ e.tag = w.tag)) → s.answersHeld v w .decline .state
  resolved : ∀ q, s.stoppable q → ∀ e ∈ s.resolvedByStop q, s.writeReady e.requester e.tag →
    ⟨e.requester, e.tag, .decline, []⟩ ∈ v.sys.sent

/-- No STOP touches a configuration. -/
theorem SoftResetStopped.config {s v : State} (h : SoftResetStopped s v) (q : QueueId) :
    (v.queue q).config = (s.queue q).config := by
  cases hl : leftByReset (s.queue q) with
  | true => rw [(h.left q hl).queue]
  | false =>
    obtain ⟨hgoes, harrives⟩ := h.queue q ((stoppable_iff s q).2 hl)
    by_cases hleft : v.entriesOf q = [] ∧ (s.queue q).popEntries = []
    · rw [harrives hleft]
      rfl
    · rw [hgoes (Classical.not_and_iff_not_or_not.1 hleft)]
      rfl

theorem softResetStopped (s : State) : SoftResetStopped s s.softResetStops := by
  obtain ⟨hwindows, hclasses, harrivals, hlink⟩ := softResetStops_frame s
  obtain ⟨hlog, hmem⟩ := softResetStops_log_mem (List.nodup_finRange 16) s
  have hreached : ∀ q, ∃ u, ReachedAt q s u := fun q => exists_reachedAt q s
  choose u hu using hreached
  exact ⟨softResetStops_halted s, hwindows, hclasses, harrivals, hlink, hlog, hmem,
    fun q hs => (hu q).halted hs, fun q hs => (hu q).queue hs, fun q hs hd => (hu q).acted hs hd,
    fun q hs w hw hname => answersHeld_of_declined (fun _ hx hn => (hu q).waiter hs hw hname hx hn),
    fun q hs e he hw => (hu q).resolved hs he hw⟩

/-- The bridge with the flag of a soft reset set, and none of its STOPs made yet (R167). -/
def resetBegun (s : State) : State := s.clearOutputs.withLink { s.clearOutputs.link with softReset := true }

/-- What SOFT-RESET leaves: its STOPs, its response, and the outcome of the completion test. -/
theorem exec_softReset {s : State} {superseded : Bool} (ho : s.asks .softReset [] superseded) (ha : s.sys.arrivals = [])
    (hw : WaiterLaw s) : ∃ v flag log, SoftResetStopped (resetBegun s) v ∧
      exec .softReset s = .next (((v.executed superseded .accepted []).withLog log).withLink
        { (s.clearOutputs.executed superseded .accepted []).link with softReset := flag }) ∧
      (flag = false ↔ v.runDown) ∧ (flag = false → log = ⟨[], 0⟩) ∧ (flag = true → log = v.log) := by
  have hstopped := softResetStopped (resetBegun s)
  have hexec : exec .softReset s = .next ((resetBegun s).softResetStops.executed superseded .accepted []).finish := by
    show Host.Outcome.next (s.clearOutputs.execute .softReset softResetEffect).finish = _
    rw [execute_asks ho, softResetEffect_state (s := s.clearOutputs) hw]
    rfl
  generalize (resetBegun s).softResetStops = v at hstopped hexec
  obtain ⟨flag, log, hfinish, hdone, hlog, hlog'⟩ := finish_in_softReset (s := v.executed superseded .accepted [])
    (by rw [executed_softReset, hstopped.link]; rfl) (hstopped.arrivals.trans ha)
  refine ⟨v, flag, log, hstopped, ?_, hdone, hlog, hlog'⟩
  rw [hexec, hfinish, executed_link hstopped.link]
  rfl

/-- During a soft reset a command other than READ-STATUS is answered BUSY, by its own row (R90, R168). -/
theorem execute_busy {s : State} {c : Command} {payload : List Byte} {superseded : Bool}
    (hp : s.link.request = some ⟨c, payload, superseded⟩) (hr : s.link.softReset = true) (hc : c ≠ .readStatus)
    (f : State → List Byte → Executed) :
    s.clearOutputs.execute c f = s.clearOutputs.executed superseded .busy [] := by
  simp only [State.execute, clearOutputs_request, hp, if_true, State.executeWith, clearOutputs_softReset, hr]
  rw [if_pos ⟨trivial, hc⟩]
  rfl

/-- The log entries of a soft reset's STOP, by the state of the queue. -/
theorem resetLogEntries_eq (s : State) (q : QueueId) : resetLogEntries s q =
    match (s.queue q).state with
    | .stopped => []
    | .stopping => []
    | _ => s.stopLogEntries q := by
  unfold resetLogEntries leftByReset
  cases (s.queue q).state <;> rfl

/-- A request stays at the arbiter through the STOPs of a soft reset unless it is a payload write of a queue that they move. -/
theorem all_staysAtReset (s : State) (r : MemRequest) : (List.finRange 16).all (fun q => staysAtReset s q r) =
    match r.owner with
    | .payload q _ => decide ((s.queue q).state = .stopped ∨ (s.queue q).state = .stopping)
    | _ => true := by
  rw [Bool.eq_iff_iff, List.all_eq_true]
  unfold staysAtReset MemRequest.payloadOf
  cases r.owner with
  | payload q p => simp [leftByReset, ← imp_iff_not_or]
  | _ => simp

theorem carriesAction_code (a : QueueAction) (q : QueueId) : carriesAction a [byteOf q.val, a.code] = true := by
  have hindex : field [byteOf q.val, a.code] 0 1 < 16 := by
    simp [field, leNat, byteOf]
    omega
  rw [carriesAction, ofCode_code, decide_eq_true hindex, decide_eq_true rfl]
  rfl

/-- The row of a command other than READ-STATUS executes it, to the end of the command. -/
theorem exec_row_of_execute {s v : State} {c : Command} (hc : c ≠ .readStatus) (hend : v.finish = v)
    (h : ∀ f, s.clearOutputs.execute c f = v) : exec c.row s = .next v := by
  cases c with
  | readStatus => exact absurd rfl hc
  | queueCommand => exact congrArg Host.Outcome.next ((congrArg State.finish (h _)).trans hend)
  | softReset => exact congrArg Host.Outcome.next ((congrArg State.finish (h _)).trans hend)
  | _ => exact congrArg Host.Outcome.next (h _)

/-- Settles O4: the STOPs of the queues do not meet, and leave no waiter to whom a freed entry could be granted; a command that
executes in a soft reset ends without meeting the test of R168. -/
theorem softResetStopsEveryQueueAndAnswersBusy : Obligations.SoftResetStopsEveryQueueAndAnswersBusy := by
  refine ⟨fun s superseded ho ha hw => ?_, fun s c payload superseded hp hr hc hnot => ?_⟩
  · obtain ⟨v, flag, log, hv, hexec, hdone, hlog, hlog'⟩ := exec_softReset ho ha hw
    refine ⟨_, hexec, hv.halted, hv.config, fun q hs => ?_, hv.windows, hv.classes, ?_, rfl, rfl,
      hdone, ?_, fun q hs => ?_, fun q hs => ?_, fun hd => ⟨fun hflag => ?_, fun q hs => ?_⟩, ?_⟩
    · exact (hv.left q ((leftByReset_iff _).2 (.inl hs))).queue
    · have hpassed : v.mem.passed = s.mem.passed := by rw [hv.mem]; rfl
      exact hpassed
    · rintro hflag
      obtain rfl := hlog hflag
      exact ⟨rfl, rfl⟩
    · have hsame := hv.left q ((leftByReset_iff _).2 (.inr hs))
      exact ⟨hsame.queue, hsame.entries⟩
    · obtain ⟨hgoes, harrives⟩ := hv.queue q hs
      exact ⟨hgoes, fun he hp => harrives ⟨he, hp⟩, hv.waiters q hs⟩
    · exact (hlog' hflag).trans (hv.log.trans (congrArg s.log.appendAll
        (List.flatMap_congr (fun q _ => resetLogEntries_eq (resetBegun s) q))))
    · exact ⟨hv.acted q hs (hd q), hv.resolved q hs⟩
    · exact (congrArg MemoryPort.waiting hv.mem).trans (List.filter_congr (fun r _ => all_staysAtReset (resetBegun s) r))
  · have hend : (s.clearOutputs.executed superseded .busy []).finish = s.clearOutputs.executed superseded .busy [] :=
      finish_of_not_runDown hr hnot
    refine ⟨exec_row_of_execute hc hend (execute_busy hp hr hc), ?_⟩
    rintro a q rfl rfl
    have hcarries : s.clearOutputs.executeAction a = s.clearOutputs.execute .queueCommand queueCommandEffect := by
      simp only [State.executeAction, clearOutputs_request, hp, carriesAction_code, if_true]
    have hrow : exec a.row s = .next (s.clearOutputs.executeAction a).finish := by cases a <;> rfl
    rw [hrow, hcarries, execute_busy hp hr hc, hend]

end Sys2Proof.Machine.Laws

namespace Sys2Proof.Machine.Laws

open Sys2Proof Sys2Proof.Machine

/-! ### Frames (R153) -/

theorem foldl_add_toNat (bs : List Byte) (a : Byte) :
    (bs.foldl (· + ·) a).toNat = (a.toNat + (bs.map BitVec.toNat).sum) % 256 := by
  induction bs generalizing a with
  | nil => simp only [List.foldl_nil, List.map_nil, List.sum_nil, Nat.add_zero]; omega
  | cons b bs ih =>
    rw [List.foldl_cons, ih, BitVec.toNat_add, List.map_cons, List.sum_cons]
    omega

theorem byteSum_toNat (bs : List Byte) : (byteSum bs).toNat = (bs.map BitVec.toNat).sum % 256 := by
  rw [byteSum, foldl_add_toNat]
  simp

theorem byteSum_eq_zero_iff (bs : List Byte) : byteSum bs = 0 ↔ (bs.map BitVec.toNat).sum % 256 = 0 := by
  rw [← byteSum_toNat, BitVec.toNat_eq]
  rfl

theorem frameWellFormed_cons (code n : Byte) (rest : List Byte) (count : Nat) :
    frameWellFormed (code :: n :: rest) count = true ↔
      n.toNat ≤ 60 ∧ count = 3 + n.toNat ∧ ((code :: n :: rest).map BitVec.toNat).sum % 256 = 0 := by
  rw [← byteSum_eq_zero_iff, frameWellFormed, Bool.and_eq_true, Bool.and_eq_true, decide_eq_true_eq, decide_eq_true_eq,
    decide_eq_true_eq, and_assoc]

/-- A frame is shorter than the request buffer, which therefore holds all of it (R152, R153). -/
theorem take_of_wellFormed {bytes : List Byte} (h : wellFormedFrame bytes) : bytes.take Config.bufferBytes = bytes := by
  obtain ⟨code, n, rest, -, hn, hlen, -⟩ := h
  refine List.take_of_length_le ?_
  show bytes.length ≤ 64
  omega

/-- The check of the request buffer is that of the whole period (R153). -/
theorem frameWellFormed_iff (bytes : List Byte) :
    frameWellFormed (bytes.take Config.bufferBytes) bytes.length = true ↔ wellFormedFrame bytes := by
  constructor
  · intro h
    match bytes, h with
    | code :: n :: rest, h =>
      obtain ⟨hn, hlen, hsum⟩ := (frameWellFormed_cons code n (rest.take 62) (rest.length + 2)).1 h
      rw [List.take_of_length_le (by omega)] at hsum
      exact ⟨code, n, rest, rfl, hn, hlen, hsum⟩
  · intro h
    rw [take_of_wellFormed h]
    obtain ⟨code, n, rest, rfl, hn, hlen, hsum⟩ := h
    exact (frameWellFormed_cons code n rest _).2 ⟨hn, hlen, hsum⟩

/-- Of the bytes after the code, the length byte and the check byte are no payload (R153). -/
theorem length_payload_of_wellFormed {code : Byte} {more : List Byte} (h : wellFormedFrame (code :: more)) :
    ((more.drop 1).take (more.length - 2)).length + 2 = more.length := by
  obtain ⟨_, n, rest, -, -, hlen, -⟩ := h
  rw [List.length_cons] at hlen
  rw [List.length_take, List.length_drop]
  omega

/-! ### The decision on a frame (R154) -/

theorem ofCode_code_command (c : Command) : Command.ofCode c.code = some c := by cases c <;> rfl

theorem ofCode_of_unknown {code : Byte} (h : ∀ c : Command, c.code ≠ code) : Command.ofCode code = none :=
  List.find?_eq_none.2 (fun c _ => by rw [decide_eq_true_eq]; exact h c)

theorem supersede_request_of_some {l : Link} {p : PendingRequest} (h : l.request = some p) :
    l.supersede.request = some { p with superseded := true } := by rw [Link.supersede, h]; rfl

/-- The decision changes the request and the response slot alone. -/
theorem judge_frame (l : Link) : l.judge.softReset = l.softReset ∧ l.judge.ignorePeriod = l.ignorePeriod ∧
    l.judge.dataOut = l.dataOut := by
  unfold Link.judge
  split
  · split
    · exact ⟨rfl, rfl, rfl⟩
    · unfold Link.accept
      split
      · exact ⟨rfl, rfl, rfl⟩
      · split
        · exact ⟨rfl, rfl, rfl⟩
        · split <;> exact ⟨rfl, rfl, rfl⟩
  · exact ⟨rfl, rfl, rfl⟩

/-- The link when a period of whole bytes, so many clocks long, stands in the request buffer (R151, R152). -/
def received (l : Link) (clocks : Nat) (bytes : List Byte) : Link := (l.silent clocks).receive bytes

section Judge

variable (l : Link) (clocks : Nat) {bytes : List Byte}

theorem frameWellFormed_received : frameWellFormed (received l clocks bytes).buffer (received l clocks bytes).received = true ↔
    wellFormedFrame bytes := frameWellFormed_iff bytes

/-- Case 1 of R154. -/
theorem judge_of_malformed (h : ¬wellFormedFrame bytes) :
    (received l clocks bytes).judge = (received l clocks bytes).supersede.answered .badFrame := by
  rw [Link.judge, if_neg (mt (frameWellFormed_received l clocks).1 h)]

/-- Case 2 of R154. -/
theorem judge_of_pending (h : wellFormedFrame bytes) {p : PendingRequest} (hp : l.request = some p) :
    (received l clocks bytes).judge = (received l clocks bytes).supersede.answered .busy := by
  have hsome : (received l clocks bytes).request.isSome = true := by
    rw [show (received l clocks bytes).request = l.request from rfl, hp]
    rfl
  rw [Link.judge, if_pos ((frameWellFormed_received l clocks).2 h), if_pos hsome]

/-- Cases 3 to 6 of R154. -/
theorem judge_of_free {code : Byte} {more : List Byte} (h : wellFormedFrame (code :: more)) (hp : l.request = none) :
    (received l clocks (code :: more)).judge =
      (received l clocks (code :: more)).accept code ((more.drop 1).take (more.length - 2)) := by
  have hnone : (received l clocks (code :: more)).request.isSome = false := by
    rw [show (received l clocks (code :: more)).request = l.request from rfl, hp]
    rfl
  have hbuffer : (received l clocks (code :: more)).buffer = code :: more := take_of_wellFormed h
  have hpayload : framePayload (code :: more) = (more.drop 1).take (more.length - 2) := rfl
  rw [Link.judge, if_pos ((frameWellFormed_received l clocks).2 h), hnone, if_neg Bool.false_ne_true, hbuffer, hpayload]
  rfl

end Judge

section Accept

variable (l : Link) {code : Byte} (payload : List Byte)

/-- Case 3 of R154. -/
theorem accept_of_unknown (h : ∀ c : Command, c.code ≠ code) : l.accept code payload = l.answered .unknownCommand := by
  rw [Link.accept, ofCode_of_unknown h]

variable {c : Command} (hc : c.code = code)

include hc

/-- Case 4 of R154. -/
theorem accept_of_softReset (h : l.softReset = true ∧ c ≠ .readStatus) : l.accept code payload = l.answered .busy := by
  rw [Link.accept, ← hc, ofCode_code_command]
  exact if_pos h

variable (h : ¬(l.softReset = true ∧ c ≠ .readStatus))

include h

/-- Case 5 of R154. -/
theorem accept_of_length_ne (hlen : payload.length ≠ c.payloadLength) : l.accept code payload = l.answered .badValue := by
  rw [Link.accept, ← hc, ofCode_code_command]
  exact (if_neg h).trans (if_pos hlen)

/-- Case 6 of R154. -/
theorem accept_of_length_eq (hlen : payload.length = c.payloadLength) :
    l.accept code payload = { l with request := some ⟨c, payload, false⟩, slot := .awaiting } := by
  rw [Link.accept, ← hc, ofCode_code_command]
  exact (if_neg h).trans (if_neg (not_not.2 hlen))

end Accept

/-! ### Select periods (R151, R154, R156) -/

theorem period_of_request {l : Link} {code : Byte} {more : List Byte} {tail : List Bool} (hc : code ≠ Config.fetchCode)
    (ht : tail.length < 8) (hi : l.ignorePeriod = false) : l.period (linkBits (code :: more) ++ tail) =
      (received l (8 * (more.length + 1) + tail.length) (code :: more)).judge.emptied := by
  rw [Link.period, hi, if_neg Bool.false_ne_true, wholeBytes_linkBits _ ht]
  simp only [if_neg hc, List.length_append, linkBits_length, List.length_cons]
  rfl

theorem period_of_short {l : Link} {bits : List Bool} (h : bits.length < 8) (hi : l.ignorePeriod = false) :
    l.period bits = l.silent bits.length := by
  rw [Link.period, hi, if_neg Bool.false_ne_true, wholeBytes_of_short h]

theorem period_of_ignored {l : Link} (bits : List Bool) (hi : l.ignorePeriod = true) :
    l.period bits = l.endIgnored bits.length := by rw [Link.period, if_pos hi]

/-- Eight bits that spell the fetch code begin a fetch, however many follow (R151). -/
theorem period_of_fetchCode (l : Link) (more : List Bool) :
    l.period (linkBits [Config.fetchCode] ++ more) = l.fetchPeriod more.length := by
  have hbytes : wholeBytes (linkBits [Config.fetchCode] ++ more) = Config.fetchCode :: wholeBytes more := rfl
  have hlen : (linkBits [Config.fetchCode] ++ more).length = 8 + more.length := List.length_append
  rw [Link.period, Link.fetchPeriod, hbytes, hlen, Nat.add_sub_cancel_left]
  simp only [if_true]

/-- Settles O5: a period's frame is judged in the request buffer, which holds every well-formed frame whole. -/
theorem requestFrameIsDecidedByTheFirstCase : Obligations.RequestFrameIsDecidedByTheFirstCase := by
  refine ⟨fun s code more tail hc ht hi => ?_, fun s bits h hi => ?_, fun s bits hi => ?_⟩
  · obtain ⟨l, hl⟩ : ∃ l, received s.clearOutputs.link (8 * (more.length + 1) + tail.length) (code :: more) = l :=
      ⟨_, rfl⟩
    have hperiod := period_of_request (l := s.clearOutputs.link) (more := more) hc ht hi
    have hrequest : l.request = s.link.request := hl ▸ rfl
    have hsoft : l.softReset = s.link.softReset := hl ▸ rfl
    have hsilent : l.ignorePeriod = s.link.ignorePeriod ∧
      l.dataOut = List.replicate (8 * (more.length + 1) + tail.length) false := hl ▸ ⟨rfl, rfl⟩
    obtain ⟨hreset, hignore, hout⟩ := judge_frame l
    rw [hl] at hperiod
    refine ⟨l.judge.emptied, congrArg (fun l => Host.Outcome.next (s.clearOutputs.withLink l)) hperiod, rfl, rfl,
      hreset.trans hsoft, hignore.trans (hsilent.1.trans hi), hout.trans hsilent.2, fun hmal => ?_,
      fun hwell => ⟨fun p hp => ?_, fun hfree => ?_⟩⟩
    · rw [← hl, judge_of_malformed _ _ hmal]
      exact ⟨rfl, rfl⟩
    · rw [← hl, judge_of_pending s.clearOutputs.link _ hwell hp]
      exact ⟨rfl, supersede_request_of_some hp⟩
    · have hjudge := judge_of_free s.clearOutputs.link (8 * (more.length + 1) + tail.length) hwell hfree
      have hpayload := length_payload_of_wellFormed hwell
      rw [hfree] at hrequest
      rw [hl] at hjudge
      rw [hjudge, ← hsoft]
      refine ⟨fun hunknown => ?_, fun c hcode => ⟨fun hbusy => ?_, fun hnot => ⟨fun hne => ?_, fun heq => ?_⟩⟩⟩
      · rw [accept_of_unknown _ _ hunknown]
        exact ⟨rfl, hrequest⟩
      · rw [accept_of_softReset _ _ hcode hbusy]
        exact ⟨rfl, hrequest⟩
      · rw [accept_of_length_ne _ _ hcode hnot (by omega)]
        exact ⟨rfl, hrequest⟩
      · rw [accept_of_length_eq _ _ hcode hnot (by omega), heq, Nat.add_sub_cancel]
        exact ⟨rfl, rfl⟩
  · exact congrArg (fun l => Host.Outcome.next (s.clearOutputs.withLink l)) (period_of_short (l := s.clearOutputs.link) h hi)
  · exact congrArg (fun l => Host.Outcome.next (s.clearOutputs.withLink l))
      (period_of_ignored (l := s.clearOutputs.link) bits hi)

/-! ### Response frames (R156) -/

/-- The check byte makes the sum of a frame 0 (R153). -/
theorem mkFrame_sum (code : Byte) (payload : List Byte) : ((mkFrame code payload).map BitVec.toNat).sum % 256 = 0 := by
  rw [← byteSum_eq_zero_iff]
  simp only [mkFrame]
  rw [byteSum, List.foldl_append, List.foldl_cons, List.foldl_nil, ← byteSum]
  generalize byteSum (code :: byteOf payload.length :: payload) = sum
  bv_omega

/-- Settles O6: what stands in the slot decides the frame. -/
theorem fetchGivesTheSlotsAnswer : Obligations.FetchGivesTheSlotsAnswer := by
  refine ⟨fun s clocks hi => ⟨s.link.fetchFrame, s.link.slot.fetched, ?_, fun h => ?_, fun h => ?_, fun r payload h => ?_⟩,
    fun s more => ?_⟩
  · have hfetch : s.clearOutputs.link.fetchPeriod clocks = s.clearOutputs.link.fetch clocks := by
      rw [Link.fetchPeriod, if_neg (by rw [clearOutputs_ignorePeriod, hi]; exact Bool.false_ne_true)]
    exact congrArg (fun l => Host.Outcome.next (s.clearOutputs.withLink l)) hfetch
  · rw [Link.fetchFrame, h]
    exact ⟨rfl, rfl⟩
  · rw [Link.fetchFrame, h]
    exact ⟨rfl, rfl⟩
  · rw [Link.fetchFrame, h]
    exact ⟨rfl, _, rfl, mkFrame_sum r.code payload⟩
  · exact congrArg (fun l => Host.Outcome.next (s.clearOutputs.withLink l)) (period_of_fetchCode s.clearOutputs.link more)

end Sys2Proof.Machine.Laws

namespace Sys2Proof.Machine.Laws

open Sys2Proof Sys2Proof.Machine

/-! ### Numbers in bytes (R151) -/

@[simp] theorem length_leBytes (n v : Nat) : (leBytes n v).length = n := by
  induction n generalizing v with
  | zero => rfl
  | succ n ih => rw [leBytes, List.length_cons, ih]

theorem leNat_leBytes (n v : Nat) : leNat (leBytes n v) = v % 256 ^ n := by
  induction n generalizing v with
  | zero => rw [Nat.pow_zero, Nat.mod_one]; rfl
  | succ n ih =>
    have hlow : (BitVec.ofNat 8 v).toNat = v % 256 := BitVec.toNat_ofNat v 8
    rw [leBytes, leNat, ih, hlow, Nat.pow_succ', Nat.mod_mul]

theorem leBytes_leNat (bs : List Byte) : leBytes bs.length (leNat bs) = bs := by
  induction bs with
  | nil => rfl
  | cons b bs ih =>
    have hlow : BitVec.ofNat 8 (b.toNat + 256 * leNat bs) = b :=
      BitVec.eq_of_toNat_eq (by rw [BitVec.toNat_ofNat]; omega)
    have hhigh : (b.toNat + 256 * leNat bs) / 256 = leNat bs := by omega
    rw [List.length_cons, leBytes, leNat, hlow, hhigh, ih]

theorem leNat_lt (bs : List Byte) : leNat bs < 256 ^ bs.length := by
  rw [← leBytes_leNat bs, leNat_leBytes, length_leBytes]
  exact Nat.mod_lt _ (Nat.pow_pos (by decide))

theorem field_lt (bs : List Byte) (i n : Nat) : field bs i n < 256 ^ n :=
  (leNat_lt _).trans_le (Nat.pow_le_pow_right (by decide) (List.length_take_le ..))

/-- A field of one byte. -/
theorem field_one {bs : List Byte} {i : Nat} {b : Byte} (h : bs[i]? = some b) : field bs i 1 = b.toNat := by
  obtain ⟨hi, rfl⟩ := List.getElem?_eq_some_iff.1 h
  rw [field, List.drop_eq_getElem_cons hi]
  rfl

theorem toNat_byteOf {n : Nat} (h : n < 256) : (byteOf n).toNat = n := by
  rw [byteOf, BitVec.toNat_ofNat]
  exact Nat.mod_eq_of_lt h

/-! ### Layouts: fields that follow one another (R181, R182) -/

/-- The bytes of fields that follow one another, each given by its width in bytes and its value. -/
def layoutBytes (fs : List (Nat × Nat)) : List Byte := fs.flatMap (fun f => leBytes f.1 f.2)

/-- The layout takes as many bytes as its widths say. -/
theorem length_layoutBytes {fs : List (Nat × Nat)} {ws : List Nat} (hw : fs.map Prod.fst = ws) :
    (layoutBytes fs).length = ws.sum := by
  rw [layoutBytes, List.length_flatMap, ← hw]
  simp only [length_leBytes]

/-- A field of a layout is read back at its place: i is the sum of the widths before it. -/
theorem field_layout {fs : List (Nat × Nat)} {ws : List Nat} (hw : fs.map Prod.fst = ws) (k : Nat) {i n v : Nat}
    (hi : (ws.take k).sum = i) (hk : fs[k]? = some (n, v)) (hv : v < 256 ^ n) : field (layoutBytes fs) i n = v := by
  obtain ⟨hlt, hget⟩ := List.getElem?_eq_some_iff.1 hk
  have hsplit : layoutBytes fs =
      layoutBytes (fs.take k) ++ (leBytes n v ++ layoutBytes (fs.drop (k + 1))) := by
    conv_lhs => rw [← List.take_append_drop k fs, List.drop_eq_getElem_cons hlt, hget]
    rw [layoutBytes, List.flatMap_append, List.flatMap_cons]
    rfl
  have hbefore : (layoutBytes (fs.take k)).length = i := by
    rw [length_layoutBytes rfl, List.map_take, hw, hi]
  rw [field, hsplit, List.drop_left' hbefore, List.take_left' (length_leBytes n v), leNat_leBytes, Nat.mod_eq_of_lt hv]

/-- The fields of the given widths that a string of bytes holds from byte i on. -/
def fieldsFrom (bs : List Byte) : Nat → List Nat → List (Nat × Nat)
  | _, [] => []
  | i, n :: ns => (n, field bs i n) :: fieldsFrom bs (i + n) ns

/-- A string of bytes is the layout of its fields. -/
theorem layoutBytes_fieldsFrom (bs : List Byte) (ns : List Nat) {i : Nat} (h : i + ns.sum = bs.length) :
    layoutBytes (fieldsFrom bs i ns) = bs.drop i := by
  induction ns generalizing i with
  | nil => exact (List.drop_of_length_le (by rw [← h]; simp)).symm
  | cons n ns ih =>
    rw [List.sum_cons, ← Nat.add_assoc] at h
    have hlen : ((bs.drop i).take n).length = n := by
      rw [List.length_take, List.length_drop]
      omega
    have hfirst : leBytes n (field bs i n) = (bs.drop i).take n := by
      have hread := leBytes_leNat ((bs.drop i).take n)
      rwa [hlen] at hread
    have hrest : layoutBytes (fieldsFrom bs i (n :: ns)) =
        leBytes n (field bs i n) ++ layoutBytes (fieldsFrom bs (i + n) ns) := rfl
    rw [hrest, ih h, hfirst, ← List.drop_drop, List.take_append_drop]

theorem layoutBytes_append (fs gs : List (Nat × Nat)) : layoutBytes (fs ++ gs) = layoutBytes fs ++ layoutBytes gs :=
  List.flatMap_append

theorem layoutBytes_cons (n v : Nat) (fs : List (Nat × Nat)) : layoutBytes ((n, v) :: fs) = leBytes n v ++ layoutBytes fs :=
  List.flatMap_cons

theorem layoutBytes_nil : layoutBytes [] = [] := rfl

theorem leBytes_one (v : Nat) : leBytes 1 v = [byteOf v] := rfl

/-! ### Codes (R181) -/

theorem boolCode_lt (b : Bool) : boolCode b < 2 := by cases b <;> decide

theorem boolOf_boolCode (b : Bool) : boolOf (boolCode b) = some b := by cases b <;> rfl

theorem boolOf_eq_some {v : Nat} {b : Bool} (h : boolOf v = some b) : v = boolCode b := by
  unfold boolOf at h
  split at h <;> cases h <;> rfl

theorem windowKind_code_lt (k : WindowKind) : k.code < 5 := by cases k <;> decide

theorem windowKind_ofCode_code (k : WindowKind) : WindowKind.ofCode k.code = some k := by cases k <;> rfl

theorem windowKind_ofCode_eq_some {v : Nat} {k : WindowKind} (h : WindowKind.ofCode v = some k) : v = k.code := by
  unfold WindowKind.ofCode at h
  split at h <;> cases h <;> rfl

theorem policy_code_lt (p : Policy) : p.code < 3 := by cases p <;> decide

theorem policy_ofCode_code (p : Policy) : Policy.ofCode p.code = some p := by cases p <;> rfl

theorem queueState_code_lt (st : QueueState) : st.code < 5 := by cases st <;> decide

theorem resumeState_code_lt (r : ResumeState) : r.code < 3 := by cases r <;> decide

theorem faultCode_lt (r : Option FaultReason) : faultCode r < 5 := by
  cases r with
  | none => decide
  | some r => cases r <;> decide

theorem indexOf_of_lt {n v : Nat} (h : v < n) : indexOf n v = some ⟨v, h⟩ := dif_pos h

theorem indexOf_val {n : Nat} (i : Fin n) : indexOf n i.val = some i := indexOf_of_lt i.isLt

theorem indexOf_of_le {n v : Nat} (h : n ≤ v) : indexOf n v = none := dif_neg (Nat.not_lt.2 h)

theorem indexOf_eq_some {n v : Nat} {i : Fin n} (h : indexOf n v = some i) : v = i.val := by
  unfold indexOf at h
  split at h <;> cases h
  rfl

/-! ### Window entries (R117, R181) -/

def windowLayout (w : Window) : List (Nat × Nat) :=
  [(1, boolCode w.enabled), (5, w.base.toNat), (5, w.limit.toNat), (1, w.kind.code), (1, w.queue.val), (5, w.target.toNat),
    (1, w.classes.toNat)]

def windowWidths : List Nat := [1, 5, 5, 1, 1, 5, 1]

theorem windowLayout_widths (w : Window) : (windowLayout w).map Prod.fst = windowWidths := rfl

theorem window_bytes_eq (w : Window) : w.bytes = layoutBytes (windowLayout w) := rfl

/-- The fields of a window entry, each at its place. -/
structure WindowFields (bs : List Byte) (w : Window) : Prop where
  enabled : field bs 0 1 = boolCode w.enabled
  base    : field bs 1 5 = w.base.toNat
  limit   : field bs 6 5 = w.limit.toNat
  kind    : field bs 11 1 = w.kind.code
  queue   : field bs 12 1 = w.queue.val
  target  : field bs 13 5 = w.target.toNat
  classes : field bs 18 1 = w.classes.toNat

theorem windowFields (w : Window) : WindowFields w.bytes w := by
  have hkind := windowKind_code_lt w.kind
  have henabled := boolCode_lt w.enabled
  rw [window_bytes_eq]
  have hfield := fun {i n v : Nat} (k : Nat) => field_layout (i := i) (n := n) (v := v) (windowLayout_widths w) k
  exact ⟨hfield 0 rfl rfl (by omega), hfield 1 rfl rfl w.base.isLt, hfield 2 rfl rfl w.limit.isLt,
    hfield 3 rfl rfl (by omega), hfield 4 rfl rfl (by omega), hfield 5 rfl rfl w.target.isLt, hfield 6 rfl rfl (by omega)⟩

theorem windowRangesOk_iff (w : Window) :
    windowRangesOk w.base.toNat w.limit.toNat w.target.toNat w.kind = true ↔ w.valid := by
  simp only [windowRangesOk, Window.valid, Bool.and_eq_true, Bool.or_eq_true, decide_eq_true_eq, and_assoc, imp_iff_not_or,
    ne_eq]

/-- A window with valid values is read back from its bytes. -/
theorem window_ofBytes_bytes {w : Window} (h : w.valid) : Window.ofBytes w.bytes = some w := by
  obtain ⟨henabled, hbase, hlimit, hkind, hqueue, htarget, hclasses⟩ := windowFields w
  have hok := (windowRangesOk_iff w).2 h
  have hset : w.classes.toNat ≤ 15 := Nat.le_of_lt_succ w.classes.isLt
  simp only [Window.ofBytes, henabled, hbase, hlimit, hkind, hqueue, htarget, hclasses, boolOf_boolCode,
    windowKind_ofCode_code, indexOf_val, hset, hok, and_self, if_true, BitVec.ofNat_toNat, BitVec.setWidth_eq]

/-- Bytes that hold the fields of a window are its bytes. -/
theorem WindowFields.bytes_eq {bs : List Byte} {w : Window} (h : WindowFields bs w) (hlen : bs.length = 19) :
    bs = w.bytes := by
  obtain ⟨henabled, hbase, hlimit, hkind, hqueue, htarget, hclasses⟩ := h
  have hlayout : fieldsFrom bs 0 windowWidths = windowLayout w := by
    simp only [fieldsFrom, windowWidths, windowLayout, Nat.zero_add, Nat.reduceAdd, henabled, hbase, hlimit, hkind, hqueue,
      htarget, hclasses]
  rw [window_bytes_eq, ← hlayout, layoutBytes_fieldsFrom bs _ hlen.symm, List.drop_zero]

theorem toNat_ofNat_field (bs : List Byte) (i n : Nat) : (BitVec.ofNat (8 * n) (field bs i n)).toNat = field bs i n := by
  rw [BitVec.toNat_ofNat, Nat.pow_mul]
  exact Nat.mod_eq_of_lt (field_lt bs i n)

/-- Bytes that spell a window are the bytes of it, and its values are valid. -/
theorem window_of_ofBytes {bs : List Byte} (hlen : bs.length = 19) {w : Window} (h : Window.ofBytes bs = some w) :
    w.valid ∧ bs = w.bytes := by
  unfold Window.ofBytes at h
  split at h
  next enabled kind queue henabled hkind hqueue =>
    dsimp only at h
    split at h
    next hvalues =>
      obtain ⟨hclasses, hok⟩ := hvalues
      have hset : (BitVec.ofNat 4 (field bs 18 1)).toNat = field bs 18 1 := by
        rw [BitVec.toNat_ofNat]
        exact Nat.mod_eq_of_lt (Nat.lt_succ_of_le hclasses)
      have haddress : ∀ i, (BitVec.ofNat 40 (field bs i 5)).toNat = field bs i 5 := fun i => toNat_ofNat_field bs i 5
      have hfields : WindowFields bs w := by
        cases h
        exact ⟨boolOf_eq_some henabled, (haddress 1).symm, (haddress 6).symm, windowKind_ofCode_eq_some hkind,
          indexOf_eq_some hqueue, (haddress 13).symm, hset.symm⟩
      refine ⟨(windowRangesOk_iff w).1 ?_, hfields.bytes_eq hlen⟩
      rw [← hfields.base, ← hfields.limit, ← hfields.target]
      cases h
      exact hok
    next => cases h
  next => cases h

theorem window_ofBytes_eq_none {bs : List Byte} (hlen : bs.length = 19) (h : ¬∃ w : Window, w.valid ∧ bs = w.bytes) :
    Window.ofBytes bs = none :=
  Option.eq_none_iff_forall_ne_some.2 (fun w hw => h ⟨w, window_of_ofBytes hlen hw⟩)

/-! ### Queue configurations (R1, R181) -/

def configLayout (c : QueueConfig) : List (Nat × Nat) :=
  [(5, c.ringBase.toNat), (3, c.ringSize), (1, c.fullPolicy.code + 16 * c.emptyPolicy.code), (2, c.holdLimit),
    (1, c.directAccess.toNat + 16 * boolCode c.logRetries), (5, c.noticeAddress.toNat), (8, c.noticeValue.toNat),
    (3, c.threshold)]

def configWidths : List Nat := [5, 3, 1, 2, 1, 5, 8, 3]

theorem configLayout_widths (c : QueueConfig) : (configLayout c).map Prod.fst = configWidths := rfl

theorem config_bytes_eq (c : QueueConfig) : c.bytes = layoutBytes (configLayout c) := rfl

@[simp] theorem config_bytes_length (c : QueueConfig) : c.bytes.length = 28 := rfl

/-- A configuration whose numbers fit their fields is read back from its bytes. -/
theorem config_ofBytes_bytes {c : QueueConfig} (hsize : c.ringSize < 2 ^ 24) (hlimit : c.holdLimit < 2 ^ 16)
    (hthreshold : c.threshold < 2 ^ 24) : QueueConfig.ofBytes c.bytes = some c := by
  have hfull := policy_code_lt c.fullPolicy
  have hempty := policy_code_lt c.emptyPolicy
  have hretries := boolCode_lt c.logRetries
  have haccess : c.directAccess.toNat < 16 := c.directAccess.isLt
  have hfield := fun {i n v : Nat} (k : Nat) => field_layout (i := i) (n := n) (v := v) (configLayout_widths c) k
  have hbase : field c.bytes 0 5 = c.ringBase.toNat := hfield 0 rfl rfl c.ringBase.isLt
  have hsize : field c.bytes 5 3 = c.ringSize := hfield 1 rfl rfl hsize
  have hpolicies : field c.bytes 8 1 = c.fullPolicy.code + 16 * c.emptyPolicy.code :=
    hfield 2 rfl rfl (by omega)
  have hlimit : field c.bytes 9 2 = c.holdLimit := hfield 3 rfl rfl hlimit
  have hflags : field c.bytes 11 1 = c.directAccess.toNat + 16 * boolCode c.logRetries :=
    hfield 4 rfl rfl (by omega)
  have haddress : field c.bytes 12 5 = c.noticeAddress.toNat :=
    hfield 5 rfl rfl c.noticeAddress.isLt
  have hvalue : field c.bytes 17 8 = c.noticeValue.toNat := hfield 6 rfl rfl c.noticeValue.isLt
  have hthreshold : field c.bytes 25 3 = c.threshold := hfield 7 rfl rfl hthreshold
  have hfullCode : (c.fullPolicy.code + 16 * c.emptyPolicy.code) % 16 = c.fullPolicy.code := by omega
  have hemptyCode : (c.fullPolicy.code + 16 * c.emptyPolicy.code) / 16 = c.emptyPolicy.code := by omega
  have hretriesCode : (c.directAccess.toNat + 16 * boolCode c.logRetries) / 16 = boolCode c.logRetries := by omega
  have hclasses : BitVec.ofNat 4 (c.directAccess.toNat + 16 * boolCode c.logRetries) = c.directAccess :=
    BitVec.eq_of_toNat_eq (by rw [BitVec.toNat_ofNat]; omega)
  simp only [QueueConfig.ofBytes, hbase, hsize, hpolicies, hlimit, hflags, haddress, hvalue, hthreshold, hfullCode, hemptyCode,
    hretriesCode, hclasses, policy_ofCode_code, boolOf_boolCode, BitVec.ofNat_toNat, BitVec.setWidth_eq]

end Sys2Proof.Machine.Laws

namespace Sys2Proof.Machine.Laws

open Sys2Proof Sys2Proof.Machine

/-! ### The execution of the table and reading commands (R155, R157 to R166) -/

/-- READ-STATUS executes in a soft reset as well (R168). -/
theorem execute_readStatus {s : State} {payload : List Byte} {superseded : Bool}
    (h : s.link.request = some ⟨.readStatus, payload, superseded⟩) (f : State → List Byte → Executed) :
    s.clearOutputs.execute .readStatus f = (f s.clearOutputs payload).state.executed superseded
      (f s.clearOutputs payload).result (f s.clearOutputs payload).payload := by
  simp only [State.execute, clearOutputs_request, h, if_true, State.executeWith]
  rw [if_neg (fun hbusy => hbusy.2 rfl)]
  rfl

/-- The row of a table, reading or log command carries out the effect f of its command, and the command ends there. -/
theorem exec_of_asks {s : State} {c : Command} {payload : List Byte} {superseded : Bool} {f : State → List Byte → Executed}
    (hrow : exec c.row s = .next (s.clearOutputs.execute c f)) (h : s.asks c payload superseded) {t : State} {r : Result}
    {bytes : List Byte} (hx : f s.clearOutputs payload = ⟨t, r, bytes⟩) :
    exec c.row s = .next (t.executed superseded r bytes) := by
  rw [hrow, execute_asks h, hx]

/-- The index that stands first in a payload. -/
theorem field_first (b : Byte) (bs : List Byte) : field (b :: bs) 0 1 = b.toNat := field_one rfl

theorem field_second (b c : Byte) (bs : List Byte) : field (b :: c :: bs) 1 1 = c.toNat := field_one rfl

/-! ### READ-WINDOW and WRITE-WINDOW (R158, R159) -/

theorem writeWindowEffect_of_invalid {s : State} {index : Byte} {i : WindowIndex} {bs : List Byte} (hi : index.toNat = i.val)
    (hw : Window.ofBytes bs = none) : writeWindowEffect s (index :: bs) = ⟨s, .badValue, []⟩ := by
  simp only [writeWindowEffect, field_first, hi, indexOf_val, List.drop_succ_cons, List.drop_zero, hw]

theorem writeWindowEffect_of_valid {s : State} {index : Byte} {i : WindowIndex} {bs : List Byte} {w : Window}
    (hi : index.toNat = i.val) (hw : Window.ofBytes bs = some w) :
    writeWindowEffect s (index :: bs) = ⟨s.withWindows (s.windows.set i.val w i.isLt), .done, []⟩ := by
  simp only [writeWindowEffect, field_first, hi, indexOf_val, List.drop_succ_cons, List.drop_zero, hw]

/-- Settles O8: a window is read back from its own bytes and from no others. -/
theorem windowCommandsReadAndReplaceAnEntry : Obligations.WindowCommandsReadAndReplaceAnEntry := by
  refine ⟨fun s index superseded h => ⟨fun i hi => ?_, fun hi => ?_⟩,
    fun s index bs superseded hlen h => ⟨fun hi => ?_, fun i hi => ⟨fun w hvalid hbs => ?_, fun hnone => ?_⟩⟩⟩
  · exact exec_of_asks (c := .readWindow) rfl h
      (by simp only [readWindowEffect, field_first, hi, indexOf_val]; rfl)
  · exact exec_of_asks (c := .readWindow) rfl h (by simp only [readWindowEffect, field_first, indexOf_of_le hi])
  · exact exec_of_asks (c := .writeWindow) rfl h (by simp only [writeWindowEffect, field_first, indexOf_of_le hi])
  · exact exec_of_asks (c := .writeWindow) (f := writeWindowEffect) rfl h
      (writeWindowEffect_of_valid hi (hbs ▸ window_ofBytes_bytes hvalid))
  · exact exec_of_asks (c := .writeWindow) (f := writeWindowEffect) rfl h
      (writeWindowEffect_of_invalid hi (window_ofBytes_eq_none hlen hnone))

/-! ### READ-QUEUE (R162) -/

def queueLayout (s : State) (q : QueueId) : List (Nat × Nat) :=
  configLayout (s.queue q).config ++
    [(1, (s.queue q).state.code + 16 * (s.queue q).resume.code), (1, faultCode (s.queue q).faultReason),
      (4, (s.queue q).release.toNat), (4, (s.queue q).read.toNat), (4, (s.queue q).commit.toNat),
      (4, (s.queue q).reserve.toNat), (2, (s.queue q).nextSequence.toNat), (1, countIn (s.entriesOf q) .filling),
      (1, countIn (s.entriesOf q) .writing), (1, countIn (s.entriesOf q) .sealing), (1, countIn (s.entriesOf q) .closed),
      (1, countIn (s.entriesOf q) .discarding), (1, countIn (s.entriesOf q) .failed), (1, (s.queue q).popEntries.length),
      (1, (s.queue q).popEntries.countP (fun p => p.errorSeen)), (1, (s.queue q).pushWaiters.length),
      (1, (s.queue q).popWaiters.length), (1, boolCode (s.queue q).noticeArmed), (1, (s.queue q).notices.length)]

def queueWidths : List Nat := configWidths ++ [1, 1, 4, 4, 4, 4, 2, 1, 1, 1, 1, 1, 1, 1, 1, 1, 1, 1, 1]

theorem queueLayout_widths (s : State) (q : QueueId) : (queueLayout s q).map Prod.fst = queueWidths := rfl

theorem queueBytes_eq (s : State) (q : QueueId) : s.queueBytes q = layoutBytes (queueLayout s q) := by
  simp only [State.queueBytes, queueLayout, layoutBytes_append, layoutBytes_cons, layoutBytes_nil, leBytes_one,
    ← config_bytes_eq, List.append_assoc, List.cons_append, List.nil_append, List.append_nil]

theorem queueBytes_take (s : State) (q : QueueId) : (s.queueBytes q).take 28 = (s.queue q).config.bytes := by
  rw [queueBytes_eq, queueLayout, layoutBytes_append, ← config_bytes_eq]
  exact List.take_left' (config_bytes_length _)

theorem countIn_le (s : State) (q : QueueId) (st : EntryState) : countIn (s.entriesOf q) st ≤ s.reservations.length :=
  List.countP_le_length.trans (List.length_filter_le ..)

/-- The waiters of a queue are among those of all queues. -/
theorem waiters_le_slotsInUse (s : State) (q : QueueId) :
    (s.queue q).pushWaiters.length + (s.queue q).popWaiters.length ≤ s.slotsInUse := by
  rw [slotsInUse_eq_sum]
  exact Finset.single_le_sum (f := fun p => slotsOf (s.queue p)) (fun _ _ => Nat.zero_le _) (Finset.mem_univ q)

/-- Settles O10: under the capacities each value fits its field of the layout. -/
theorem readQueueReturnsTheSnapshot : Obligations.ReadQueueReturnsTheSnapshot := by
  refine ⟨fun s q superseded h hsize hlimit hthreshold hc => ?_, fun s index superseded h hi => ?_⟩
  · obtain ⟨-, hentries, hpops, hslots, hnotices, -, -, -⟩ := hc
    have hstate := queueState_code_lt (s.queue q).state
    have hresume := resumeState_code_lt (s.queue q).resume
    have hfault := faultCode_lt (s.queue q).faultReason
    have hcount := fun st => (countIn_le s q st).trans hentries
    have herrors : (s.queue q).popEntries.countP (fun p => p.errorSeen) ≤ (s.queue q).popEntries.length :=
      List.countP_le_length
    have hwaiters := waiters_le_slotsInUse s q
    have harmed := boolCode_lt (s.queue q).noticeArmed
    have hpops := hpops q
    have hnotices := hnotices q
    have hbyte : ∀ st, countIn (s.entriesOf q) st < 256 ^ 1 := fun st => by
      have := hcount st
      omega
    have hread := config_ofBytes_bytes hsize hlimit hthreshold
    rw [← queueBytes_take] at hread
    refine ⟨s.queueBytes q, exec_of_asks (c := .readQueue) rfl h
      (by simp only [readQueueEffect, indexOf_byteOf]; rfl), ?_⟩
    rw [queueBytes_eq] at hread ⊢
    have hfield := fun {i n v : Nat} (k : Nat) => field_layout (i := i) (n := n) (v := v) (queueLayout_widths s q) k
    refine ⟨length_layoutBytes (queueLayout_widths s q), hread,
      hfield 8 (by decide) rfl (by omega), hfield 9 (by decide) rfl (by omega),
      hfield 10 (by decide) rfl (s.queue q).release.isLt, hfield 11 (by decide) rfl (s.queue q).read.isLt,
      hfield 12 (by decide) rfl (s.queue q).commit.isLt, hfield 13 (by decide) rfl (s.queue q).reserve.isLt,
      hfield 14 (by decide) rfl (s.queue q).nextSequence.isLt, hfield 15 (by decide) rfl (hbyte _),
      hfield 16 (by decide) rfl (hbyte _), hfield 17 (by decide) rfl (hbyte _), hfield 18 (by decide) rfl (hbyte _),
      hfield 19 (by decide) rfl (hbyte _), hfield 20 (by decide) rfl (hbyte _), hfield 21 (by decide) rfl (by omega), ?_,
      hfield 23 (by decide) rfl (by omega), hfield 24 (by decide) rfl (by omega),
      hfield 25 (by decide) rfl (harmed.trans (by decide)), hfield 26 (by decide) rfl (by omega)⟩
    rw [← List.countP_eq_length_filter]
    exact hfield 22 (by decide) rfl (by omega)
  · exact exec_of_asks (c := .readQueue) rfl h (by simp only [readQueueEffect, field_first, indexOf_of_le hi])

/-! ### READ-STATUS (R157) -/

theorem attentionLine_iff (s : State) :
    s.attentionLine = true ↔ s.log.entries ≠ [] ∨ ∃ q, (s.queue q).state = .faulted := by
  have hfaulted : s.someFaulted = true ↔ ∃ q, (s.queue q).state = .faulted := by
    rw [← not_iff_not, Bool.not_eq_true, State.someFaulted, List.any_eq_false,
      forall_queues_iff s (fun x => ¬decide (x.state = .faulted) = true)]
    simp only [decide_eq_true_eq, not_exists]
  rw [State.attentionLine, Bool.or_eq_true, hfaulted]
  simp

def statusLayout (s : State) : List (Nat × Nat) :=
  [(2, 0x3160), (1, 1), (1, 16), (1, 32), (1, boolCode s.link.softReset), (1, boolCode s.attentionLine)] ++
    (s.queues.toList.map (fun x => (1, x.state.code)) ++ [(1, s.log.entries.length)])

def statusWidths : List Nat := [2, 1, 1, 1, 1, 1] ++ (List.replicate 16 1 ++ [1])

theorem statusLayout_widths (s : State) : (statusLayout s).map Prod.fst = statusWidths := by
  have hqueues : (s.queues.toList.map (fun x => (1, x.state.code))).map Prod.fst = List.replicate 16 1 := by
    rw [List.map_map, show Prod.fst ∘ (fun x : Queue => (1, x.state.code)) = fun _ => 1 from rfl, List.map_const',
      Vector.length_toList]
  rw [statusLayout, List.map_append, List.map_append, hqueues]
  rfl

theorem statusBytes_eq (s : State) : s.statusBytes = layoutBytes (statusLayout s) := by
  have hqueues : s.queues.toList.map (fun x => byteOf x.state.code) =
      layoutBytes (s.queues.toList.map (fun x => (1, x.state.code))) := by
    rw [layoutBytes, List.flatMap_map]
    exact List.map_eq_flatMap
  simp only [State.statusBytes, statusLayout, layoutBytes_append, layoutBytes_cons, layoutBytes_nil, leBytes_one, hqueues,
    List.append_assoc, List.cons_append, List.nil_append, List.append_nil]

/-- The state of queue q stands behind the six values of the bridge. -/
theorem statusLayout_queue (s : State) (q : QueueId) : (statusLayout s)[6 + q.val]? = some (1, (s.queue q).state.code) := by
  have hq : q.val < (s.queues.toList.map (fun x => (1, x.state.code))).length := by simp
  have hplace : 6 + q.val - 6 = q.val := Nat.add_sub_cancel_left 6 q.val
  rw [statusLayout, List.getElem?_append_right (Nat.le_add_right 6 q.val)]
  show (_ ++ _)[6 + q.val - 6]? = _
  rw [hplace, List.getElem?_append_left hq, List.getElem?_map, Vector.getElem?_toList, Vector.getElem?_eq_getElem q.isLt]
  rfl

theorem statusLayout_log (s : State) : (statusLayout s)[22]? = some (1, s.log.entries.length) := by
  rw [statusLayout, ← List.append_assoc, List.getElem?_append_right (by simp)]
  simp

/-- Settles O7: each value of the status has its field of the layout. -/
theorem readStatusReportsTheBridge : Obligations.ReadStatusReportsTheBridge := by
  intro s superseded h hlog
  have hfield := fun {i n v : Nat} (k : Nat) => field_layout (i := i) (n := n) (v := v) (statusLayout_widths s) k
  have hflag := boolCode_lt s.link.softReset
  have hline := boolCode_lt s.attentionLine
  have hattention : field (layoutBytes (statusLayout s)) 6 1 = boolCode s.attentionLine :=
    hfield 5 rfl rfl (hline.trans (by decide))
  refine ⟨s.statusBytes, congrArg Host.Outcome.next (execute_readStatus h readStatusEffect), ?_⟩
  rw [statusBytes_eq]
  refine ⟨length_layoutBytes (statusLayout_widths s), hfield 0 rfl rfl (by decide), hfield 1 rfl rfl (by decide),
    hfield 2 rfl rfl (by decide), hfield 3 rfl rfl (by decide), hfield 4 rfl rfl (hflag.trans (by decide)), ?_, fun q => ?_,
    hfield 22 (by decide) (statusLayout_log s) (by omega)⟩
  · rw [hattention, ← attentionLine_iff]
    cases s.attentionLine <;> decide
  · exact hfield (6 + q.val) (by revert q; decide) (statusLayout_queue s q) ((queueState_code_lt _).trans (by decide))

/-! ### READ-CLASS-MAP and WRITE-CLASS (R160, R161) -/

theorem packClasses_lt (cs : List RequesterClass) : packClasses cs < 4 ^ cs.length := by
  induction cs with
  | nil => decide
  | cons c cs ih =>
    rw [packClasses, List.length_cons, Nat.pow_succ']
    omega

/-- The class of each requester of a byte is one of its digits to base 4. -/
theorem packClasses_digit {cs : List RequesterClass} {j : Nat} {c : RequesterClass} (h : cs[j]? = some c) :
    packClasses cs / 4 ^ j % 4 = c.val := by
  induction cs generalizing j with
  | nil => cases h
  | cons d cs ih =>
    cases j with
    | zero =>
      obtain rfl : d = c := Option.some.inj h
      rw [packClasses, Nat.pow_zero, Nat.div_one]
      omega
    | succ j =>
      have hrest : (d.val + 4 * packClasses cs) / 4 = packClasses cs := by omega
      rw [packClasses, Nat.pow_succ', ← Nat.div_div_eq_div_mul, hrest]
      exact ih h

/-- The classes of requesters 4k to 4k + 3. -/
def classesAt (s : State) (k : Fin 16) : List RequesterClass := (s.classes.toList.drop (4 * k.val)).take 4

theorem classesAt_getElem (s : State) (k : Fin 16) (j : Fin 4) :
    (classesAt s k)[j.val]? = some (s.classOf ⟨4 * k.val + j.val, by omega⟩) := by
  have hlt : 4 * k.val + j.val < 64 := by omega
  rw [classesAt, List.getElem?_take_of_lt j.isLt, List.getElem?_drop, Vector.getElem?_toList,
    Vector.getElem?_eq_getElem hlt]
  rfl

theorem classMapBytes_field (s : State) (k : Fin 16) : field s.classMapBytes k.val 1 = packClasses (classesAt s k) := by
  have hget : s.classMapBytes[k.val]? = some (byteOf (packClasses (classesAt s k))) := by
    rw [State.classMapBytes, List.getElem?_map, List.getElem?_range k.isLt]
    rfl
  rw [field_one hget]
  refine toNat_byteOf ((packClasses_lt _).trans_le ?_)
  exact Nat.pow_le_pow_right (by decide) (List.length_take_le ..)

/-- Settles O9: each byte of the class map holds four digits to base 4. -/
theorem classCommandsReadAndReplaceClasses : Obligations.ClassCommandsReadAndReplaceClasses := by
  refine ⟨fun s superseded h => ?_,
    fun s requester cls superseded h => ⟨fun hr => ?_, fun r hr => ⟨fun hc => ?_, fun c hc => ?_⟩⟩⟩
  · refine ⟨s.classMapBytes, exec_of_asks (c := .readClassMap) (f := readClassMapEffect) rfl h rfl, ?_, fun k j => ?_⟩
    · rw [State.classMapBytes, List.length_map, List.length_range]
    · rw [classMapBytes_field]
      exact packClasses_digit (classesAt_getElem s k j)
  · exact exec_of_asks (c := .writeClass) rfl h (by simp only [writeClassEffect, field_first, indexOf_of_le hr])
  · exact exec_of_asks (c := .writeClass) rfl h
      (by simp only [writeClassEffect, field_first, field_second, hr, indexOf_val, indexOf_of_le hc])
  · exact exec_of_asks (c := .writeClass) rfl h
      (by simp only [writeClassEffect, field_first, field_second, hr, hc, indexOf_val]; rfl)

/-! ### READ-LOG and PEEK-LOG (R165, R166, R182) -/

def logEntryLayout (e : LogEntry) (lost : Nat) : List (Nat × Nat) :=
  [(1, e.reason.code.toNat), (1, e.presence), (1, absentZero e.origin (fun o => o.1.val)),
    (1, absentZero e.origin (fun o => o.2.val)), (5, absentZero e.address (fun a => a.toNat)),
    (1, absentZero e.queue (fun q => q.val)), (2, absentZero e.sequence (fun n => n.toNat)),
    (1, absentZero e.words LogWords.code), (2, lost)]

def logEntryWidths : List Nat := [1, 1, 1, 1, 5, 1, 2, 1, 2]

theorem logEntryLayout_widths (e : LogEntry) (lost : Nat) : (logEntryLayout e lost).map Prod.fst = logEntryWidths := rfl

theorem logEntry_bytes_eq (e : LogEntry) (lost : Nat) : e.bytes lost = layoutBytes (logEntryLayout e lost) := by
  have hreason : byteOf e.reason.code.toNat = e.reason.code := by
    rw [byteOf, BitVec.ofNat_toNat, BitVec.setWidth_eq]
  simp only [LogEntry.bytes, logEntryLayout, layoutBytes_cons, layoutBytes_nil, leBytes_one, hreason, List.append_assoc,
    List.cons_append, List.nil_append, List.append_nil]

theorem absentZero_lt {α : Type} {x : Option α} {value : α → Nat} {n : Nat} (hn : 0 < n)
    (h : ∀ a, x = some a → value a < n) : absentZero x value < n := by
  cases x with
  | none => exact hn
  | some a => exact h a rfl

theorem presence_eq (e : LogEntry) : e.presence =
    (if e.origin.isSome then 1 else 0) + (if e.address.isSome then 2 else 0) + (if e.queue.isSome then 4 else 0) +
      (if e.sequence.isSome then 8 else 0) + (if e.words.isSome then 16 else 0) := by
  simp only [LogEntry.presence, boolCode, mul_ite, Nat.mul_one, Nat.mul_zero]

theorem presence_lt (e : LogEntry) : e.presence < 32 := by
  have h1 := boolCode_lt e.origin.isSome
  have h2 := boolCode_lt e.address.isSome
  have h3 := boolCode_lt e.queue.isSome
  have h4 := boolCode_lt e.sequence.isSome
  have h5 := boolCode_lt e.words.isSome
  rw [LogEntry.presence]
  omega

/-- The code of the words field fits a byte, if a count does. -/
theorem logWords_code_lt {w : LogWords} (h : ∀ n, w = .count n → n < 256) : w.code < 256 := by
  cases w with
  | count n => exact h n rfl
  | cause c => cases c <;> decide
  | fault r => cases r <;> decide

/-- Settles O11: the fields of an entry stand in the layout of R182, and an absent one is zero. -/
theorem logCommandsReturnTheOldestEntry : Obligations.LogCommandsReturnTheOldestEntry := by
  refine ⟨fun s superseded h => ⟨fun hnil => ?_, fun e rest he => ?_⟩,
    fun s superseded h => ⟨fun hnil => ?_, fun e rest he => ?_⟩, fun e lost hlost hcount => ?_⟩
  · exact exec_of_asks (c := .readLog) (f := readLogEffect) rfl h (by simp only [readLogEffect, clearOutputs_log, hnil])
  · exact exec_of_asks (c := .readLog) (f := readLogEffect) rfl h (by simp only [readLogEffect, clearOutputs_log, he]; rfl)
  · exact exec_of_asks (c := .peekLog) (f := peekLogEffect) rfl h (by simp only [peekLogEffect, clearOutputs_log, hnil])
  · exact exec_of_asks (c := .peekLog) (f := peekLogEffect) rfl h (by simp only [peekLogEffect, clearOutputs_log, he])
  · have hfield := fun {i n v : Nat} (k : Nat) => field_layout (i := i) (n := n) (v := v) (logEntryLayout_widths e lost) k
    have hwords : absentZero e.words LogWords.code < 256 :=
      absentZero_lt (by decide) (fun w hw => logWords_code_lt (fun n hn => hcount n (hw.trans (congrArg some hn))))
    have hrequester : absentZero e.origin (fun o => o.1.val) < 256 := absentZero_lt (by decide) (fun o _ => by omega)
    have htag : absentZero e.origin (fun o => o.2.val) < 256 := absentZero_lt (by decide) (fun o _ => by omega)
    have haddress : absentZero e.address (fun a => a.toNat) < 256 ^ 5 := absentZero_lt (by decide) (fun a _ => a.isLt)
    have hqueue : absentZero e.queue (fun q => q.val) < 256 := absentZero_lt (by decide) (fun q _ => by omega)
    have hsequence : absentZero e.sequence (fun n => n.toNat) < 256 ^ 2 := absentZero_lt (by decide) (fun n _ => n.isLt)
    have hpresence := presence_lt e
    refine ⟨rfl, rfl, ?_⟩
    rw [logEntry_bytes_eq, ← presence_eq]
    refine ⟨hfield 1 rfl rfl (by omega), (hfield 2 rfl rfl hrequester).trans ?_, (hfield 3 rfl rfl htag).trans ?_,
      (hfield 4 rfl rfl haddress).trans ?_, (hfield 5 rfl rfl hqueue).trans ?_, (hfield 6 rfl rfl hsequence).trans ?_,
      (hfield 7 rfl rfl hwords).trans ?_, hfield 8 rfl rfl (by omega)⟩
    · cases e.origin <;> rfl
    · cases e.origin <;> rfl
    · cases e.address <;> rfl
    · cases e.queue <;> rfl
    · cases e.sequence <;> rfl
    · cases e.words with
      | none => rfl
      | some w =>
        cases w with
        | count n => rfl
        | cause c => cases c <;> rfl
        | fault r => cases r <;> rfl

end Sys2Proof.Machine.Laws

namespace Sys2Proof.Machine.Laws

open Sys2Proof Sys2Proof.Machine

/-! ### The link through the taking test (R135) -/

theorem releaseAll_link (s : State) (q : QueueId) (reason : Reason) : (s.releaseAll q reason).link = s.link :=
  (answersOnly_releaseAll s q reason).link

theorem latch_link (s : State) (q : QueueId) (r : Requester) (t : Tag) (fault : FaultReason) :
    ((s.declineQueue q r t .latched).faultTrigger q fault).link = s.link := by
  have hdecline := (answersOnly_declineQueue s q r t .latched).link
  obtain ⟨-, h⟩ | ⟨-, h⟩ := faultTrigger_cases (s.declineQueue q r t .latched) q fault
  · rw [h, State.enterFaulted, releaseAll_link]
    exact hdecline
  · rw [h, hdecline]

theorem join_link (s : State) (q : QueueId) (side : Side) (r : Requester) (t : Tag) (L : BurstLength) :
    (s.join q side r t L).link = s.link := by
  obtain h | ⟨w, -, h⟩ := join_cases s q side r t L
  · exact h.link
  · rw [h]
    rfl

theorem decidePush_link (s : State) (q : QueueId) (r : Requester) (t : Tag) (L : BurstLength) :
    (s.decidePush q r t L).link = s.link := by
  have hdecline := fun reason => (answersOnly_declineQueue s q r t reason).link
  unfold State.decidePush
  dsimp only
  split
  · exact hdecline _
  · split
    · exact hdecline _
    · exact hdecline _
    · exact hdecline _
    · exact hdecline _
    · split
      · exact join_link s q .push r t L
      · split
        · unfold State.applyFullPolicy
          split
          · exact join_link s q .push r t L
          · exact (answersOnly_retry _ _ _ _ _).link
          · exact latch_link s q r t _
        · split
          · exact (grantsOnly_grantPush s q r t L).link
          · exact join_link s q .push r t L

theorem decidePopActive_link (s : State) (q : QueueId) (r : Requester) (t : Tag) (L : BurstLength) :
    (s.decidePopActive q r t L).link = s.link := by
  unfold State.decidePopActive
  dsimp only
  split
  · exact join_link s q .pop r t L
  · split
    · split
      · exact (answersOnly_declineQueue _ _ _ _ _).link
      · unfold State.applyEmptyPolicy
        split
        · exact join_link s q .pop r t L
        · exact (answersOnly_retry _ _ _ _ _).link
        · exact latch_link s q r t _
    · split
      · rfl
      · exact join_link s q .pop r t L

theorem decidePop_link (s : State) (q : QueueId) (r : Requester) (t : Tag) (L : BurstLength) :
    (s.decidePop q r t L).link = s.link := by
  have hdecline := fun reason => (answersOnly_declineQueue s q r t reason).link
  unfold State.decidePop
  dsimp only
  split
  · exact hdecline _
  · split
    · exact hdecline _
    · exact hdecline _
    · exact hdecline _
    · exact decidePopActive_link s q r t L
    · exact decidePopActive_link s q r t L

theorem take_link (s : State) (q : Request) : (s.take q).link = s.link := by
  unfold State.take State.carry
  dsimp only
  split
  · exact (answersOnly_declineAddress _ _ _).link
  · exact (answersOnly_declineAddress _ _ _).link
  · exact decidePush_link _ _ _ _ _
  · exact decidePop_link _ _ _ _ _
  · split <;> rfl

theorem takePresented_link (s : State) : s.takePresented.link = s.link :=
  takeFrom_keeps (P := fun u => u.link = s.link) (fun _ _ h => h) (fun u q h => (take_link u q).trans h) _ rfl

/-- The end of a command leaves the pending request. -/
theorem finish_request (s : State) : s.finish.link.request = s.link.request := by
  unfold State.finish
  split
  · rw [takePresented_link]
    rfl
  · split
    · rfl
    · rw [takePresented_link]

/-! ### QUEUE-COMMAND (R164) -/

theorem queueAction_ofCode_eq_some {v : Nat} {a : QueueAction} (h : QueueAction.ofCode v = some a) : v = a.code.toNat := by
  unfold QueueAction.ofCode at h
  split at h <;> cases h <;> rfl

theorem queueAction_ofCode_of_unknown {action : Byte} (h : ∀ a : QueueAction, a.code ≠ action) :
    QueueAction.ofCode action.toNat = none :=
  Option.eq_none_iff_forall_ne_some.2 (fun a ha => h a (BitVec.eq_of_toNat_eq (queueAction_ofCode_eq_some ha).symm))

/-- A QUEUE-COMMAND that is refused changes the link alone. -/
theorem exec_queueCommand_refused {s : State} {payload : List Byte} {superseded : Bool}
    (h : s.asks .queueCommand payload superseded) {r : Result}
    (hx : queueCommandEffect s.clearOutputs payload = ⟨s.clearOutputs, r, []⟩) :
    exec .queueCommand s = .next (s.clearOutputs.executed superseded r []) := by
  show Host.Outcome.next (s.clearOutputs.execute .queueCommand queueCommandEffect).finish = _
  rw [execute_asks h, hx]
  exact congrArg _ (finish_executed superseded r [] rfl h.2)

/-- Settles O13: an index below 16 and an action code are what the action's own row reads. -/
theorem queueCommandCarriesOutItsAction : Obligations.QueueCommandCarriesOutItsAction := by
  refine fun s index action superseded h => ⟨fun hi => ?_, fun hi => ⟨fun hunknown => ?_, ?_⟩⟩
  · exact exec_queueCommand_refused h (by simp only [queueCommandEffect, field_first, indexOf_of_le hi])
  · refine exec_queueCommand_refused h ?_
    simp only [queueCommandEffect, field_first, field_second, indexOf_of_lt hi, queueAction_ofCode_of_unknown hunknown]
  · rintro a rfl
    have hindex : index = byteOf (⟨index.toNat, hi⟩ : QueueId).val := by
      rw [byteOf, BitVec.ofNat_toNat, BitVec.setWidth_eq]
    have horders : s.orders a ⟨index.toNat, hi⟩ superseded := by
      rw [State.orders, ← hindex]
      exact h
    have hrow := exec_action horders
    exact ⟨_, (exec_queueCommand horders).trans hrow, hrow, finish_request _⟩

end Sys2Proof.Machine.Laws

namespace Sys2Proof.Machine.Laws

open Sys2Proof Sys2Proof.Machine

/-! ### What an append does to the Exception Log (R172, R175) -/

section Append

variable {l : ExceptionLog}

theorem append_of_lt (h : l.entries.length < Config.logEntries) (e : LogEntry) :
    l.append e = ⟨l.entries ++ [e], l.lost⟩ :=
  if_pos h

theorem append_of_full (h : ¬l.entries.length < Config.logEntries) (e : LogEntry) :
    l.append e = ⟨l.entries, if l.lost < Config.lostLimit then l.lost + 1 else l.lost⟩ :=
  if_neg h

end Append

/-- Settles O52: an append splits at a full log, and a dropped one at the limit of the lost count. -/
theorem logAppendAndAttentionLine : Obligations.LogAppendAndAttentionLine := by
  refine ⟨fun l e => ⟨fun hroom => append_of_lt hroom e, fun hfull hbelow => ?counted, fun hfull hlimit => ?saturated⟩,
    attentionLine_iff⟩
  case counted =>
    rw [append_of_full hfull.not_lt, if_pos hbelow]
  case saturated =>
    have hstays : ¬l.lost < Config.lostLimit := hlimit.not_lt
    rw [append_of_full hfull.not_lt, if_neg hstays]

end Sys2Proof.Machine.Laws

namespace Sys2Proof.Machine.Laws

open Sys2Proof Sys2Proof.Machine

/-- Settles O1: the first command of the queue selects the branch of the step. -/
theorem stepTakesTheFrontCommand : Obligations.StepTakesTheFrontCommand := by
  intro s c rest hpending
  rw [step, hpending]

end Sys2Proof.Machine.Laws

namespace Sys2Proof.Machine.Laws

open Sys2Proof Sys2Proof.Machine

/-! ### The fields of a queue configuration (R1, R181) -/

theorem policy_ofCode_eq_some {v : Nat} {p : Policy} (h : Policy.ofCode v = some p) : v = p.code := by
  unfold Policy.ofCode at h
  split at h <;> cases h <;> rfl

/-- The fields of a queue configuration, each at its place. -/
structure ConfigFields (bs : List Byte) (c : QueueConfig) : Prop where
  ringBase      : field bs 0 5 = c.ringBase.toNat
  ringSize      : field bs 5 3 = c.ringSize
  policies      : field bs 8 1 = c.fullPolicy.code + 16 * c.emptyPolicy.code
  holdLimit     : field bs 9 2 = c.holdLimit
  access        : field bs 11 1 = c.directAccess.toNat + 16 * boolCode c.logRetries
  noticeAddress : field bs 12 5 = c.noticeAddress.toNat
  noticeValue   : field bs 17 8 = c.noticeValue.toNat
  threshold     : field bs 25 3 = c.threshold

theorem configFields {c : QueueConfig} (hsize : c.ringSize < 2 ^ 24) (hlimit : c.holdLimit < 2 ^ 16)
    (hthreshold : c.threshold < 2 ^ 24) : ConfigFields c.bytes c := by
  have hfull := policy_code_lt c.fullPolicy
  have hempty := policy_code_lt c.emptyPolicy
  have hretries := boolCode_lt c.logRetries
  rw [config_bytes_eq]
  have hfield := fun {i n v : Nat} (k : Nat) => field_layout (i := i) (n := n) (v := v) (configLayout_widths c) k
  exact ⟨hfield 0 rfl rfl c.ringBase.isLt, hfield 1 rfl rfl hsize, hfield 2 rfl rfl (by omega), hfield 3 rfl rfl hlimit,
    hfield 4 rfl rfl (by omega), hfield 5 rfl rfl c.noticeAddress.isLt, hfield 6 rfl rfl c.noticeValue.isLt,
    hfield 7 rfl rfl hthreshold⟩

/-- Bytes that hold the fields of a configuration are its bytes. -/
theorem ConfigFields.bytes_eq {bs : List Byte} {c : QueueConfig} (h : ConfigFields bs c) (hlen : bs.length = 28) :
    c.bytes = bs := by
  obtain ⟨hbase, hsize, hpolicies, hlimit, haccess, haddress, hvalue, hthreshold⟩ := h
  have hlayout : fieldsFrom bs 0 configWidths = configLayout c := by
    simp only [fieldsFrom, configWidths, configLayout, Nat.zero_add, Nat.reduceAdd, hbase, hsize, hpolicies, hlimit, haccess,
      haddress, hvalue, hthreshold]
  rw [config_bytes_eq, ← hlayout, layoutBytes_fieldsFrom bs _ hlen.symm, List.drop_zero]

/-- The configuration that bytes spell has its fields in them: no bit of a coded byte is left out. -/
theorem configFields_of_ofBytes {bs : List Byte} {c : QueueConfig} (h : QueueConfig.ofBytes bs = some c) :
    ConfigFields bs c := by
  unfold QueueConfig.ofBytes at h
  dsimp only at h
  split at h
  next fullPolicy emptyPolicy logRetries hfull hempty hretries =>
    have hpolicies : field bs 8 1 = fullPolicy.code + 16 * emptyPolicy.code := by
      rw [← policy_ofCode_eq_some hfull, ← policy_ofCode_eq_some hempty, Nat.mod_add_div]
    have haccess : field bs 11 1 = (BitVec.ofNat 4 (field bs 11 1)).toNat + 16 * boolCode logRetries := by
      rw [← boolOf_eq_some hretries, BitVec.toNat_ofNat]
      exact (Nat.mod_add_div _ 16).symm
    cases h
    exact ⟨(toNat_ofNat_field bs 0 5).symm, rfl, hpolicies, rfl, haccess, (toNat_ofNat_field bs 12 5).symm,
      (toNat_ofNat_field bs 17 8).symm, rfl⟩
  next => cases h

/-- Settles O51: a layout is read back field by field, and a code table is the list of its constructors' codes. -/
theorem layoutsAreReadBackWhole : Obligations.LayoutsAreReadBackWhole := by
  refine ⟨⟨fun w => ?windowPlaces, fun w hvalid => window_ofBytes_bytes hvalid, fun bs w hlen h => ?windowWritten⟩,
    ⟨fun c hsize hlimit hthreshold => ?configPlaces,
      fun bs c hlen h => (configFields_of_ofBytes h).bytes_eq hlen⟩,
    fun c => ?commands, fun r => ?results, fun x => ?queueStates, fun x => ?resumeStates, fun x => ?faultReasons,
    fun x => ?policies, fun x => ?windowKinds, fun x => ?actions, fun x => ?reasons⟩
  case windowPlaces =>
    obtain ⟨henabled, hbase, hlimit, hkind, hqueue, htarget, hclasses⟩ := windowFields w
    exact ⟨rfl, henabled, hbase, hlimit, hkind, hqueue, htarget, hclasses⟩
  case windowWritten =>
    obtain ⟨hvalid, hbytes⟩ := window_of_ofBytes hlen h
    exact ⟨hvalid, hbytes.symm⟩
  case configPlaces =>
    obtain ⟨hbase, hringSize, hpolicies, hholdLimit, haccess, haddress, hvalue, hthresholdField⟩ :=
      configFields hsize hlimit hthreshold
    exact ⟨config_bytes_length c, hbase, hringSize, hpolicies, hholdLimit, haccess, haddress, hvalue, hthresholdField,
      config_ofBytes_bytes hsize hlimit hthreshold⟩
  case commands => cases c <;> decide
  case results => cases r <;> decide
  case queueStates => cases x <;> decide
  case resumeStates => cases x <;> decide
  case faultReasons =>
    cases x with
    | none => decide
    | some reason => cases reason <;> decide
  case policies => cases x <;> decide
  case windowKinds => cases x <;> decide
  case actions => cases x <;> decide
  case reasons => cases x <;> decide

end Sys2Proof.Machine.Laws
